-- ==== Sys2Proof/Word.lean ====
section
/-! DEFINITION. The word types of the block: the operand and result word, the flag vector and the
sequencer code (10_state.md rules R20, R23, R26). -/

namespace Sys2Proof

/-- An ExtendedFloat: a 128-bit vector, bit 127 the sign (R20). -/
abbrev XF := BitVec 128

/-- The five exception flags: bit 4 NV, 3 DZ, 2 OF, 1 UF, 0 NX (R26). -/
abbrev FlagBits := BitVec 5

/-- A sequencer code, the value of `STEP` (R23, R72). -/
abbrev StepCode := BitVec 6

end Sys2Proof
end

