-- ==== Sys2Proof/Machine/Fields.lean ====
section
/-! DEFINITION. The fields of an ExtendedFloat, the word view, `pack`, and the classes of encodings
(10_state.md R20, R21; 30_encoding.md R70, R73; 40_fp_primitives.md R101; 41_bit_decomposer.md R141). -/

namespace Sys2Proof

namespace XF

/-- `v[127]` (R70). -/
def sign (v : XF) : BitVec 1 := v.extractLsb' 127 1

/-- `v[126:112]`, the biased exponent (R70). -/
def bexp (v : XF) : BitVec 15 := v.extractLsb' 112 15

/-- `v[111:0]`, the stored fraction (R70). -/
def frac (v : XF) : BitVec 112 := v.extractLsb' 0 112

/-- `v[126:0]`, the encoding without its sign (R81, R102). -/
def mag (v : XF) : BitVec 127 := v.extractLsb' 0 127

/-- `W0 = v[127:96]`, the most significant word (R21). -/
def w0 (v : XF) : BitVec 32 := v.extractLsb' 96 32

/-- `W1 = v[95:64]` (R21). -/
def w1 (v : XF) : BitVec 32 := v.extractLsb' 64 32

/-- `W2 = v[63:32]` (R21). -/
def w2 (v : XF) : BitVec 32 := v.extractLsb' 32 32

/-- `W3 = v[31:0]` (R21). -/
def w3 (v : XF) : BitVec 32 := v.extractLsb' 0 32

/-- The magnitude word `K0 = W0 & 0x7FFFFFFF` of R73 and R160. -/
def k0 (v : XF) : BitVec 32 := v.w0 &&& 0x7FFFFFFF

/-- `pack(s, be, f)`, the recompose function (R141). -/
def pack (s : BitVec 1) (be : BitVec 15) (f : BitVec 112) : XF := s ++ be ++ f

/-- The infinity of sign `s` (R101). -/
def inf (s : BitVec 1) : XF := pack s 0x7FFF 0

/-- The zero of sign `s` (R101). -/
def zero (s : BitVec 1) : XF := pack s 0 0

/-- Biased exponent and fraction zero (R101). -/
def isZero (v : XF) : Bool := v.bexp == 0 && v.frac == 0

/-- Biased exponent zero, fraction not (R101). -/
def isSubnormal (v : XF) : Bool := v.bexp == 0 && v.frac != 0

/-- Biased exponent 1 to `0x7FFE` (R101). -/
def isNormal (v : XF) : Bool := v.bexp != 0 && v.bexp != 0x7FFF

/-- Biased exponent all ones, fraction zero (R101). -/
def isInf (v : XF) : Bool := v.bexp == 0x7FFF && v.frac == 0

/-- Biased exponent all ones, fraction not zero (R101). -/
def isNaN (v : XF) : Bool := v.bexp == 0x7FFF && v.frac != 0

/-- A NaN with fraction bit 111 set (R101). -/
def isQuietNaN (v : XF) : Bool := v.isNaN && v.frac.getLsbD 111

/-- A NaN with fraction bit 111 clear (R101). -/
def isSignallingNaN (v : XF) : Bool := v.isNaN && !v.frac.getLsbD 111

/-- Zero, subnormal or normal (R101). -/
def isFinite (v : XF) : Bool := v.bexp != 0x7FFF

/-- The encoding with bit 127 inverted (the `b'` of R109). -/
def neg (v : XF) : XF := v ^^^ 0x80000000000000000000000000000000

/-- The encoding with its quiet bit forced to 1, `v | (1 << 111)` (R107). -/
def quiet (v : XF) : XF := v ||| (1 <<< 111)

/-- How many leading bits of the 112-bit fraction are zero (the `lz` of R142). -/
def leadingZeros (f : BitVec 112) : Nat := if f = 0 then 112 else 111 - f.toNat.log2

end XF

end Sys2Proof
end

