-- ==== Sys2Proof/Syntax.lean ====
section
/-! DEFINITION. The syntax: one constructor for each row of spec/opcode_table.json.

The operand of a request row is the part of the 128-bit request word that the row's mask leaves free
(30_encoding.md R81); a micro-operation row takes no operand, because its registers are fixed (R74, R80). -/

namespace Sys2Proof

/-- The rows of spec/opcode_table.json, in the table's order. -/
inductive Instr where
  /-- `LN`, mask 0: any request word (R247). -/
  | ln (x : XF)
  /-- `LN.ZERO`: `x[126:0] = 0`, either sign (R162). -/
  | lnZero (sign : BitVec 1)
  /-- `LN.NEG`: sign bit 1, any other magnitude (R163, R164). -/
  | lnNeg (mag : BitVec 127)
  /-- `LN.SPECIAL`: sign bit 0 (rows 1 and 2 take the others), biased exponent all ones (R165). -/
  | lnSpecial (frac : BitVec 112)
  /-- `LN.ONE`: the word of 1.0 (R192). -/
  | lnOne
  /-- `LN.NEAR1`, pattern 1 of 3: top 22 bits of `0x3FFEFC00` (R193). -/
  | lnNear1Below (low : BitVec 106)
  /-- `LN.NEAR1`, pattern 2 of 3: top 23 bits of `0x3FFF0000` (R193). -/
  | lnNear1Above (low : BitVec 105)
  /-- `LN.NEAR1`, pattern 3 of 3: the word of 1.0078125 (R193). -/
  | lnNear1Top
  /-- `LN.GEN`, mask 0: every word no earlier row takes (R194, R195). -/
  | lnGen (x : XF)
  -- sequencer, bit_decomposer, special_case_classifier
  | idle | decomp | classify | spcZero | spcNeg1 | spcNeg2 | spcInfnan | norm
  -- range_reducer_with_lut
  | index | tbuild | band | spcOne | znear | zsub | zdiv
  -- poly_evaluator_degree15
  | sqr | pinit
  | pmul14 | padd14 | pmul13 | padd13 | pmul12 | padd12 | pmul11 | padd11
  | pmul10 | padd10 | pmul9 | padd9 | pmul8 | padd8 | pmul7 | padd7
  | pmul6 | padd6 | pmul5 | padd5 | pmul4 | padd4 | pmul3 | padd3
  | qmul | ser
  -- precision_accumulator, with the table read
  | hw | acc1 | ecvt | eb | acc2 | acc3 | lut | acc4 | tm1 | acc5 | ea | acc6
  -- sequencer
  | done
  deriving DecidableEq, Repr

/-- The words a decoder of this block meets: a request word, format `REQ` (R71), or a sequencer code,
format `UOP` (R72). -/
inductive CodeWord where
  | req (x : XF)
  | uop (code : StepCode)
  deriving DecidableEq, Repr

end Sys2Proof
end

