-- ==== Sys2Proof/WellFormed.lean ====
section
/-! DEFINITION. Which terms of `Instr` the table has a word for: "first match in the listed order wins"
(30_encoding.md R81), so a request row's operand must not make a word an earlier row takes. -/

namespace Sys2Proof

/-- The word of 1.0, the match of row `LN.ONE` (R81, R114). -/
def oneWord : XF := 0x3FFF0000000000000000000000000000

/-- The two ends of the band, `BAND_LO` and `BAND_HI` (R81, R191). -/
def bandLoWord : XF := 0x3FFEFC00000000000000000000000000
/-- See `bandLoWord`. -/
def bandHiWord : XF := 0x3FFF0200000000000000000000000000

/-- Row `LN.GEN` takes what the rows before it leave: sign 0, not a zero, not all-ones exponent, outside
the band (R81). -/
def isGenWord (x : XF) : Bool :=
  x.sign == 0 && x.mag != 0 && x.bexp != 0x7FFF &&
    !(bandLoWord.toNat ≤ x.toNat && x.toNat ≤ bandHiWord.toNat)

/-- A term that stands for a word its own row takes. `LN` has mask 0 and takes every word. -/
def Instr.wellFormed : Instr → Bool
  | .lnNeg mag => mag != 0
  | .lnNear1Above low => low != 0
  | .lnGen x => isGenWord x
  | .ln _ | .lnZero _ | .lnSpecial _ | .lnOne | .lnNear1Below _ | .lnNear1Top => true
  | .idle | .decomp | .classify | .spcZero | .spcNeg1 | .spcNeg2 | .spcInfnan | .norm => true
  | .index | .tbuild | .band | .spcOne | .znear | .zsub | .zdiv | .sqr | .pinit => true
  | .pmul14 | .padd14 | .pmul13 | .padd13 | .pmul12 | .padd12 | .pmul11 | .padd11 => true
  | .pmul10 | .padd10 | .pmul9 | .padd9 | .pmul8 | .padd8 | .pmul7 | .padd7 => true
  | .pmul6 | .padd6 | .pmul5 | .padd5 | .pmul4 | .padd4 | .pmul3 | .padd3 => true
  | .qmul | .ser | .hw | .acc1 | .ecvt | .eb | .acc2 | .acc3 | .lut | .acc4 => true
  | .tm1 | .acc5 | .ea | .acc6 | .done => true

end Sys2Proof
end

