-- ==== Sys2Proof/Decode.lean ====
section
/-! DEFINITION. The decoder of the two formats (request word R71, sequencer code R72), total, rejecting the
reserved codes by name, and the encoder written from the same tables (30_encoding.md R74, R81). -/

namespace Sys2Proof

/-- Why a word is no instruction. -/
inductive DecodeError where
  /-- A sequencer code 56 to 63: reserved (R78). Request words are never rejected. -/
  | reservedCode (code : StepCode)
  deriving DecidableEq, Repr

/-- The micro-operation of a sequencer code (R74); none for the reserved codes 56 to 63 (R78). -/
def decodeUop (code : StepCode) : Option Instr :=
  match code.toNat with
  | 0 => some .idle
  | 1 => some .decomp
  | 2 => some .classify
  | 3 => some .spcZero
  | 4 => some .spcNeg1
  | 5 => some .spcNeg2
  | 6 => some .spcInfnan
  | 7 => some .norm
  | 8 => some .index
  | 9 => some .tbuild
  | 10 => some .band
  | 11 => some .spcOne
  | 12 => some .znear
  | 13 => some .zsub
  | 14 => some .zdiv
  | 15 => some .sqr
  | 16 => some .pinit
  | 17 => some .pmul14
  | 18 => some .padd14
  | 19 => some .pmul13
  | 20 => some .padd13
  | 21 => some .pmul12
  | 22 => some .padd12
  | 23 => some .pmul11
  | 24 => some .padd11
  | 25 => some .pmul10
  | 26 => some .padd10
  | 27 => some .pmul9
  | 28 => some .padd9
  | 29 => some .pmul8
  | 30 => some .padd8
  | 31 => some .pmul7
  | 32 => some .padd7
  | 33 => some .pmul6
  | 34 => some .padd6
  | 35 => some .pmul5
  | 36 => some .padd5
  | 37 => some .pmul4
  | 38 => some .padd4
  | 39 => some .pmul3
  | 40 => some .padd3
  | 41 => some .qmul
  | 42 => some .ser
  | 43 => some .hw
  | 44 => some .acc1
  | 45 => some .ecvt
  | 46 => some .eb
  | 47 => some .acc2
  | 48 => some .acc3
  | 49 => some .lut
  | 50 => some .acc4
  | 51 => some .tm1
  | 52 => some .acc5
  | 53 => some .ea
  | 54 => some .acc6
  | 55 => some .done
  | _ => none

/-- The request row of an operand word: the classes of R81 tested in the listed order, first match wins. -/
def decodeRequest (x : XF) : Instr :=
  if x.mag = 0 then .lnZero x.sign
  else if x.sign = 1 then .lnNeg x.mag
  else if x.bexp = 0x7FFF then .lnSpecial x.frac
  else if x = oneWord then .lnOne
  else if x.extractLsb' 106 22 = bandLoWord.extractLsb' 106 22 then
    .lnNear1Below (x.extractLsb' 0 106)
  else if x.extractLsb' 105 23 = oneWord.extractLsb' 105 23 then
    .lnNear1Above (x.extractLsb' 0 105)
  else if x = bandHiWord then .lnNear1Top
  else .lnGen x

/-- The decoder: a request word always is a request row, a code is a micro-operation or reserved. -/
def decode : CodeWord → Except DecodeError Instr
  | .req x => .ok (decodeRequest x)
  | .uop code =>
    match decodeUop code with
    | some i => .ok i
    | none => .error (.reservedCode code)

/-- The word of an instruction, from the same tables: a request row's fixed bits with its operand in the
free ones (R81), a micro-operation's code (R74). -/
def encode : Instr → CodeWord
  | .ln x => .req x
  | .lnZero sign => .req (sign ++ 0#127)
  | .lnNeg mag => .req (1#1 ++ mag)
  | .lnSpecial frac => .req (0#1 ++ 0x7FFF#15 ++ frac)
  | .lnOne => .req 0x3FFF0000000000000000000000000000
  | .lnNear1Below low => .req (0x0FFFBF#22 ++ low)
  | .lnNear1Above low => .req (0x1FFF80#23 ++ low)
  | .lnNear1Top => .req 0x3FFF0200000000000000000000000000
  | .lnGen x => .req x
  | .idle => .uop 0
  | .decomp => .uop 1
  | .classify => .uop 2
  | .spcZero => .uop 3
  | .spcNeg1 => .uop 4
  | .spcNeg2 => .uop 5
  | .spcInfnan => .uop 6
  | .norm => .uop 7
  | .index => .uop 8
  | .tbuild => .uop 9
  | .band => .uop 10
  | .spcOne => .uop 11
  | .znear => .uop 12
  | .zsub => .uop 13
  | .zdiv => .uop 14
  | .sqr => .uop 15
  | .pinit => .uop 16
  | .pmul14 => .uop 17
  | .padd14 => .uop 18
  | .pmul13 => .uop 19
  | .padd13 => .uop 20
  | .pmul12 => .uop 21
  | .padd12 => .uop 22
  | .pmul11 => .uop 23
  | .padd11 => .uop 24
  | .pmul10 => .uop 25
  | .padd10 => .uop 26
  | .pmul9 => .uop 27
  | .padd9 => .uop 28
  | .pmul8 => .uop 29
  | .padd8 => .uop 30
  | .pmul7 => .uop 31
  | .padd7 => .uop 32
  | .pmul6 => .uop 33
  | .padd6 => .uop 34
  | .pmul5 => .uop 35
  | .padd5 => .uop 36
  | .pmul4 => .uop 37
  | .padd4 => .uop 38
  | .pmul3 => .uop 39
  | .padd3 => .uop 40
  | .qmul => .uop 41
  | .ser => .uop 42
  | .hw => .uop 43
  | .acc1 => .uop 44
  | .ecvt => .uop 45
  | .eb => .uop 46
  | .acc2 => .uop 47
  | .acc3 => .uop 48
  | .lut => .uop 49
  | .acc4 => .uop 50
  | .tm1 => .uop 51
  | .acc5 => .uop 52
  | .ea => .uop 53
  | .acc6 => .uop 54
  | .done => .uop 55

/-- The 128-bit word of a request row, 0 for a micro-operation (which has none). -/
def requestWord (i : Instr) : XF :=
  match encode i with
  | .req x => x
  | .uop _ => 0

/-- What the decoder reads from an instruction whose bits are `w`, numbered as the table numbers them. A
table word of 1 to 8 bits is a sequencer code: its low six bits are the code, and the bits that only fill
the byte are not part of it (R72). Any longer word, or none, is a request word, bits above it zero (R71). -/
def decodeTableWord (nbits w : Nat) : Option Instr :=
  if 1 ≤ nbits ∧ nbits ≤ 8 then decodeUop (BitVec.ofNat 6 w)
  else some (decodeRequest (BitVec.ofNat 128 (w % 2 ^ nbits)))

end Sys2Proof
end

