-- ==== Sys2Proof/Machine/Flags.lean ====
section
/-! DEFINITION. The five exception flags and the flag sets a rounding can raise (10_state.md R26;
40_fp_primitives.md R104 to R106; 60_exceptions.md R250). -/

namespace Sys2Proof.Flag

/-- NV, invalid operation, bit 4 (R26). -/
def nv : FlagBits := 0b10000
/-- DZ, divide by zero, bit 3 (R26). -/
def dz : FlagBits := 0b01000
/-- OF, overflow, bit 2 (R26). -/
def of : FlagBits := 0b00100
/-- UF, underflow, bit 1 (R26). -/
def uf : FlagBits := 0b00010
/-- NX, inexact, bit 0 (R26). -/
def nx : FlagBits := 0b00001
/-- No flag. -/
def none : FlagBits := 0

/-- The flag `f` when `c` holds, no flag otherwise. -/
def when (c : Prop) [Decidable c] (f : FlagBits) : FlagBits := if c then f else none

end Sys2Proof.Flag
end

