-- ==== Sys2Proof/Machine/Arith.lean ====
section
/-! DEFINITION. The floating-point primitives of 40_fp_primitives.md (rules R100 to R114): exact rational
arithmetic, then one rounding. Each is a total function of its operands and of `DEFAULT_NAN` alone. -/

namespace Sys2Proof.FP

/-- What a primitive returns: an encoding and its flags (R100). -/
structure Result where
  value : XF
  flags : FlagBits
  deriving DecidableEq, Repr

/-- `val(v)`, the real value of a finite encoding (R102). -/
def val (v : XF) : ℚ :=
  let magnitude : ℚ :=
    if v.bexp = 0 then 2 ^ (-16382 : ℤ) * (v.frac.toNat / 2 ^ 112)
    else 2 ^ ((v.bexp.toNat : ℤ) - 16383) * (1 + v.frac.toNat / 2 ^ 112)
  if v.sign = 1 then -magnitude else magnitude

/-- Nearest integer to `n ≥ 0`, halves to even: the `g` of R104 after its `if rem > 1/2 ...` line. -/
def nearestEven (n : ℚ) : ℕ :=
  let g := ⌊n⌋₊
  let rem := n - g
  if rem > 1 / 2 ∨ (rem = 1 / 2 ∧ g % 2 = 1) then g + 1 else g

/-- `tiny(r)`: `r` rounded to 113 significant bits as if the exponent range were unbounded is still below
`2^-16382` (R106, tininess after rounding). -/
def tiny (r : ℚ) : Bool :=
  let q : ℤ := Int.log 2 r - 112
  (nearestEven (r / 2 ^ q) : ℚ) * 2 ^ q < 2 ^ (-16382 : ℤ)

/-- `round(s, r)` for an exact magnitude `r > 0`: nearest, ties to even, with overflow to infinity (R104,
R105) and underflow for a tiny inexact result (R106). -/
def round (s : BitVec 1) (r : ℚ) : Result :=
  let e : ℤ := Int.log 2 r
  let qe0 : ℤ := max e (-16382)
  let n : ℚ := r / 2 ^ (qe0 - 112)
  let g0 : ℕ := nearestEven n
  let inexact : Prop := n - ⌊n⌋₊ ≠ 0
  let g : ℕ := if g0 = 2 ^ 113 then 2 ^ 112 else g0
  let qe : ℤ := if g0 = 2 ^ 113 then qe0 + 1 else qe0
  if g < 2 ^ 112 then
    { value := XF.pack s 0 (BitVec.ofNat 112 g), flags := Flag.when inexact (Flag.uf ||| Flag.nx) }
  else if qe + 16383 ≥ 0x7FFF then
    { value := XF.inf s, flags := Flag.of ||| Flag.nx }
  else
    { value := XF.pack s (BitVec.ofInt 15 (qe + 16383)) (BitVec.ofNat 112 g)
      flags := Flag.when inexact Flag.nx |||
        Flag.when (e < -16382 ∧ inexact ∧ tiny r) Flag.uf }

/-- `RN(q)`: the encoding nearest the real `q`, `RN(0) = +0` (R10, R104). -/
def rn (q : ℚ) : XF :=
  if q = 0 then 0 else (round (if q < 0 then 1 else 0) |q|).value

/-- The result of an invalid operation with no NaN operand (R103). -/
def invalid (dn : XF) : Result := { value := dn, flags := Flag.nv }

/-- `nanprop(a, b)`: the first NaN operand, quieted; NV if either is signalling (R107). -/
def nanprop (a b : XF) : Result :=
  { value := if a.isNaN then a.quiet else b.quiet
    flags := Flag.when (a.isSignallingNaN ∨ b.isSignallingNaN) Flag.nv }

/-- `fadd(a, b)` (R108). -/
def fadd (dn a b : XF) : Result :=
  if a.isNaN ∨ b.isNaN then nanprop a b
  else if a.isInf ∧ b.isInf then
    if a.sign ≠ b.sign then invalid dn else ⟨a, Flag.none⟩
  else if a.isInf then ⟨a, Flag.none⟩
  else if b.isInf then ⟨b, Flag.none⟩
  else
    let r := val a + val b
    if r = 0 then
      if a.isZero ∧ b.isZero ∧ a.sign = b.sign then ⟨a, Flag.none⟩ else ⟨XF.zero 0, Flag.none⟩
    else round (if r < 0 then 1 else 0) |r|

/-- `fsub(a, b)` (R109). -/
def fsub (dn a b : XF) : Result :=
  if a.isNaN ∨ b.isNaN then nanprop a b else fadd dn a b.neg

/-- `fmul(a, b)` (R110). -/
def fmul (dn a b : XF) : Result :=
  if a.isNaN ∨ b.isNaN then nanprop a b
  else
    let s := a.sign ^^^ b.sign
    if a.isInf ∨ b.isInf then
      if a.isZero ∨ b.isZero then invalid dn else ⟨XF.inf s, Flag.none⟩
    else
      let r := |val a * val b|
      if r = 0 then ⟨XF.zero s, Flag.none⟩ else round s r

/-- `fdiv(a, b)` (R111). -/
def fdiv (dn a b : XF) : Result :=
  if a.isNaN ∨ b.isNaN then nanprop a b
  else
    let s := a.sign ^^^ b.sign
    if a.isInf then
      if b.isInf then invalid dn else ⟨XF.inf s, Flag.none⟩
    else if b.isInf then ⟨XF.zero s, Flag.none⟩
    else if b.isZero then
      if a.isZero then invalid dn else ⟨XF.inf s, Flag.dz⟩
    else if a.isZero then ⟨XF.zero s, Flag.none⟩
    else round s |val a / val b|

/-- `i2f(n)` for a 16-bit two's-complement integer (R112): the value, never a flag. -/
def i2f (n : BitVec 16) : XF :=
  if n = 0 then XF.zero 0
  else (round (if n.toInt < 0 then 1 else 0) (n.toInt.natAbs : ℚ)).value

/-- The integer that orders the non-NaN encodings as their values: the magnitude bits with the sign, so
that the two zeros are equal and the infinities stand at the ends (R102, R113). -/
def orderKey (v : XF) : ℤ := if v.sign = 1 then -(v.mag.toNat : ℤ) else v.mag.toNat

/-- `fle(a, b)`: whether `val(a) ≤ val(b)`, defined for non-NaN operands only (R113). -/
def fle (a b : XF) : Option Bool :=
  if a.isNaN ∨ b.isNaN then none else some (orderKey a ≤ orderKey b)

end Sys2Proof.FP
end

