-- ==== Sys2Proof/Config.lean ====
section
/-! DEFINITION. What the spec leaves OPEN (00_scope.md rule R8): the series coefficients, the NaN of an
invalid operation, the latency; and the two output ports while no response is offered
(93_implementation_defined.md U5). The raw values are opaque: nothing can evaluate them. Each OPEN
parameter is its raw value brought into the range the spec allows, by a map that reaches EVERY allowed
value and leaves an allowed value as it is, so that a claim about the parameter holds for every block the
spec admits. -/

namespace Sys2Proof.Config

/-- The raw word behind `COEF[n]` (R56). -/
opaque coefRaw : Nat → XF

/-- The raw word behind `DEFAULT_NAN` (R103). -/
opaque nanRaw : XF

/-- One less than the latency `LAT` (R8, R286). -/
opaque latRaw : Nat

/-- `rsp_y` while `rsp_valid = 0` (U5), or while `Y` holds no value (log 21), at the edge of the given
number: any value. -/
opaque rspYUnspecified : Nat → XF

/-- `rsp_flags` while `rsp_valid = 0`, at the edge of the given number: any value (U5). -/
opaque rspFlagsUnspecified : Nat → FlagBits

/-- The magnitude bits of 1/16, the least magnitude R56 allows a coefficient. -/
def coefMagMin : Nat := 0x3FFB * 2 ^ 112

/-- The magnitude bits of 1/2, the greatest magnitude R56 allows a coefficient. -/
def coefMagMax : Nat := 0x3FFE * 2 ^ 112

/-- A word brought into the range R56 allows `COEF[n]`: normal, magnitude from 1/16 to 1/2, positive for
odd `n` and negative for even `n`. A word already in the range stays as it is. -/
def admitCoef (n : Nat) (raw : XF) : XF :=
  let mag := raw.toNat % 2 ^ 127
  let mag' :=
    if coefMagMin ≤ mag ∧ mag ≤ coefMagMax then mag
    else coefMagMin + mag % (coefMagMax - coefMagMin + 1)
  BitVec.ofNat 128 (if n % 2 = 1 then mag' else 2 ^ 127 + mag')

/-- A word with the exponent bits and the quiet bit set: every quiet NaN is reached, and stays as it is
(R101, R103). -/
def admitNan (raw : XF) : XF := raw ||| 0x7FFF8000000000000000000000000000

/-- `COEF[n]`, the coefficient `l_n`, for `n = 3..15` (R56, OPEN). -/
def coef (n : Nat) : XF := admitCoef n (coefRaw n)

/-- `DEFAULT_NAN` (R103, OPEN). -/
def defaultNan : XF := admitNan nanRaw

/-- `LAT` (R8, R286, OPEN): at least 1; no rule of the spec reads it, and the model's step does not. -/
def lat : Nat := latRaw + 1

end Sys2Proof.Config
end

