-- ==== Sys2Proof/Machine/State.lean ====
section
/-! DEFINITION. The state of the block as plain data, the reasons a step can stop, and the state after
reset (10_state.md rules R22 to R31; 70_reset_and_hazards.md R280).

A register of R24 and R25 has a content and, as the spec's own state, either holds a value or "holds no
value" (R24, R30, R31). Every register has a content at reset (log 2); the spec's rule R31 makes the read
of a register that holds no value a fault, so nothing can come to depend on that content. -/

namespace Sys2Proof.Machine

/-- `CLS`, the operand class, 2 bits: `ZERO=0, NEG=1, SPECIAL=2, POSFIN=3` (R24). -/
inductive OperandClass where
  | zero | neg | special | posfin
  deriving DecidableEq, Repr, Inhabited

/-- A register of R24 or R25: its content, and whether it holds a value (R24, R30, R31). -/
structure Register (α : Type) where
  value : α
  holds : Bool
  deriving DecidableEq, Repr

/-- A register that holds the value `v`. -/
def Register.holding {α : Type} (v : α) : Register α := { value := v, holds := true }

/-- A register that holds no value (R30). -/
def Register.unheld {α : Type} [Inhabited α] : Register α := { value := default, holds := false }

/-- The names of the registers of R24 and R25. -/
inductive Reg where
  | sgn | bexp | frac | cls | e0 | sig | m17 | tierb | j | k | e | near1 | isone
  | x | u | t | z | w | p | ef | tmp | y
  deriving DecidableEq, Repr

/-- The three read-only address spaces (R28, R52). -/
inductive RomSpace where
  | logtbl | coef | const
  deriving DecidableEq, Repr

/-- The OPEN parameters fixed when the block is built, constant over its life (R8, R282): the 13 words of
the `COEF` ROM, index `n - 3` for `l_n` (R52, R56), and `DEFAULT_NAN` (R103). No step writes them. -/
structure Params where
  coef : Vector XF 13
  defaultNan : XF
  deriving DecidableEq, Repr

/-- The input ports at one rising clock edge (R22). -/
structure PortIn where
  rst : Bool
  reqValid : Bool
  reqX : XF
  rspReady : Bool
  deriving DecidableEq, Repr

/-- What the host does next: one clock edge with the input ports as given, or one line `LN x` of a
host-level program, which is one transaction (R80). -/
inductive HostInput where
  | edge (p : PortIn)
  | line (x : XF)
  deriving DecidableEq, Repr

/-- The state of the block, with the host's coming inputs. -/
structure State where
  /-- `STEP`, the code of the micro-operation that executes next (R23). -/
  step : StepCode
  /-- `FACC`, the flag accumulator of the operation in flight (R26). -/
  facc : FlagBits
  /-- `SGN`, sign field of the operand (R24). -/
  sgn : Register (BitVec 1)
  /-- `BEXP`, biased exponent field of the operand (R24). -/
  bexp : Register (BitVec 15)
  /-- `FRAC`, fraction field of the operand (R24). -/
  frac : Register (BitVec 112)
  /-- `CLS`, operand class (R24). -/
  cls : Register OperandClass
  /-- `E0`, binary exponent of the normalised operand, two's complement (R24). -/
  e0 : Register (BitVec 16)
  /-- `SIG`, normalised significand (R24). -/
  sig : Register (BitVec 113)
  /-- `M17`, `SIG[112:96]` (R24). -/
  m17 : Register (BitVec 17)
  /-- `TIERB`, tier B was chosen (R24). -/
  tierb : Register Bool
  /-- `J`, tier-local grid numerator (R24). -/
  j : Register (BitVec 7)
  /-- `K`, table index (R24). -/
  k : Register (BitVec 7)
  /-- `E`, integer exponent adjustment, two's complement (R24). -/
  e : Register (BitVec 16)
  /-- `NEAR1`, the operand lies in the band (R24). -/
  near1 : Register Bool
  /-- `ISONE`, the operand is exactly 1.0 (R24). -/
  isone : Register Bool
  /-- `X`, the operand (R25). -/
  x : Register XF
  /-- `U`, the realigned significand (R25). -/
  u : Register XF
  /-- `T`, the grid point (R25). -/
  t : Register XF
  /-- `Z`, the residual (R25). -/
  z : Register XF
  /-- `W`, the rounded square of `Z` (R25). -/
  w : Register XF
  /-- `P`, the Horner accumulator (R25). -/
  p : Register XF
  /-- `EF`, `E` converted to floating point (R25). -/
  ef : Register XF
  /-- `TMP`, the one-step temporary (R25). -/
  tmp : Register XF
  /-- `Y`, the result accumulator (R25). -/
  y : Register XF
  /-- The OPEN build-time parameters, the `COEF` ROM among them (R8, R56, R103). -/
  params : Params
  /-- The MODEL's own: what the host drives at the coming edges, the next first (R22, R80, R284). -/
  inputs : List HostInput
  /-- The MODEL's own: how many steps were taken, which numbers the free values of U5. -/
  edges : Nat
  deriving DecidableEq, Repr

/-- Why the machine stops with a fault. -/
inductive Fault where
  /-- A micro-operation read a register that holds no value: "a model makes such a read a fault" (R31).
  Raised by `readReg` alone. Safe: the hardware state has no value there, and no sequence of
  micro-operations from reset performs such a read. -/
  | noValue (r : Reg)
  deriving DecidableEq, Repr

/-- Why the model gives a state no step. -/
inductive Refusal where
  /-- An instruction that has no meaning yet. Raised by an arm of `exec` alone. Safe. -/
  | notModelled (mnemonic : String)
  /-- `STEP` holds a reserved code 56 to 63: "a model gives a state with `STEP >= 56` no step" (R78).
  Raised by `step`. Safe: the sequencer never enters such a code. -/
  | reservedStep (code : StepCode)
  /-- `RomRead` outside the ranges of R52: "A model refuses (gives no meaning to) a read outside the
  ranges". Raised by `readRom`. Safe: no micro-operation from reset produces such an index. -/
  | romIndex (space : RomSpace) (index : Nat)
  /-- `fle` applied to a NaN, for which it is not defined (R113, U12). Raised by `BAND`. Safe: `BAND` is
  reached only with a positive finite operand. -/
  | fleOfNan
  deriving DecidableEq, Repr

/-- The 13 words of the `COEF` ROM as the block was built: index `n - 3` holds `COEF[n]` (R52, R56). -/
def Params.ofConfig : Params :=
  { coef := #v[Config.coef 3, Config.coef 4, Config.coef 5, Config.coef 6, Config.coef 7,
      Config.coef 8, Config.coef 9, Config.coef 10, Config.coef 11, Config.coef 12, Config.coef 13,
      Config.coef 14, Config.coef 15]
    defaultNan := Config.defaultNan }

/-- The block right after reset (R30, R280): `STEP = S_IDLE`, `FACC = 0`, every other register holds no
value; the host drives nothing. -/
def State.reset : State :=
  { step := 0, facc := 0
    sgn := .unheld, bexp := .unheld, frac := .unheld, cls := .unheld, e0 := .unheld
    sig := .unheld, m17 := .unheld, tierb := .unheld, j := .unheld, k := .unheld
    e := .unheld, near1 := .unheld, isone := .unheld
    x := .unheld, u := .unheld, t := .unheld, z := .unheld, w := .unheld, p := .unheld
    ef := .unheld, tmp := .unheld, y := .unheld
    params := .ofConfig, inputs := [], edges := 0 }

end Sys2Proof.Machine
end

