-- ==== Sys2Proof/Machine/Rom.lean ====
section
/-! DEFINITION. The three read-only address spaces and `RomRead` (20_memory.md rules R51 to R58). `LOGTBL`
and `CONST` are the constants the spec gives; the words of `COEF` are an OPEN parameter, held in
`State.params`. An index is a word index, not a byte address: there is no byte order (R50, R51). -/

namespace Sys2Proof.Machine

/-- `CONST[0]`, +0.0 (R58). -/
def constZero : XF := 0x00000000000000000000000000000000
/-- `CONST[1]`, -0.5 (R58). -/
def constMhalf : XF := 0xBFFE0000000000000000000000000000
/-- `CONST[2]`, 0.5 (R58). -/
def constHalf : XF := 0x3FFE0000000000000000000000000000
/-- `CONST[3]`, 1.0 (R58). -/
def constOne : XF := 0x3FFF0000000000000000000000000000
/-- `CONST[4]`, 127/128 (R58). -/
def constBandLo : XF := 0x3FFEFC00000000000000000000000000
/-- `CONST[5]`, 129/128 (R58). -/
def constBandHi : XF := 0x3FFF0200000000000000000000000000
/-- `CONST[6]`, `LN2A = 45426 * 2^-16` (R57, R58). -/
def constLn2a : XF := 0x3FFE62E4000000000000000000000000
/-- `CONST[7]`, `LN2B = RN(ln 2 - LN2A)` (R57, R58). -/
def constLn2b : XF := 0x3FEB7F7D1CF79ABC9E3B39803F2F6AF4

/-- The `CONST` space, index 0 to 7 (R58). -/
def constRom : List XF :=
  [constZero, constMhalf, constHalf, constOne, constBandLo, constBandHi, constLn2a, constLn2b]

/-- `LOGTBL[0]` to `LOGTBL[22]` (R55). -/
def logtbl0 : List XF :=
  [0xBFFAC5641F4E350A0D32756EBA00BC34,
   0xBFFAAADEEFACAF97D357DD6E688EBB14,
   0xBFFA9157039C51EBE708164C759686A2,
   0xBFFA78C6E138E20D831F698298ADDDD8,
   0xBFFA61293B9998C1DAA5B035EAE273A8,
   0xBFFA4A78F0E9AE71D852CDEC34784708,
   0xBFFA34B1089A6DC93C1DF5BB3B60554E,
   0xBFFA1FCCB1AD35CA6ED5147BDB6DDCAF,
   0xBFFA0BC74113F23DEF19C5A0FE396F41,
   0xBFF9F138604D5862736C5BB53A44E1F4,
   0xBFF9CC8E3659D9BCBECCA0CDF301431B,
   0xBFF9A9877FF388090913B020FA1820C9,
   0xBFF9881BF932AF3DAC0C524848E3443E,
   0xBFF968439C1DEC568774D57DA945B5D1,
   0xBFF949F69E456CF1B795F53BD2E406E6,
   0xBFF92D2D6E7B80BF9142C507FB7A3D0C,
   0xBFF911E0B2A8D1E0DDB9A631E830FD31,
   0xBFF8F0128B756ABB9C8698F787A64EA2,
   0xBFF8BF406B543DB1FB8292ECFC82062E,
   0xBFF8913D8333B560DE553F6D9E1D9682,
   0xBFF865FCB01590162FA8234B72895951,
   0xBFF83D712A49C201A471FA7BEB8A5AD0,
   0xBFF8178E8227E47BDE338B41FC72DE82]

/-- `LOGTBL[23]` to `LOGTBL[45]` (R55). -/
def logtbl23 : List XF :=
  [0xBFF7E89139DBD56594D82F7A81B1B252,
   0xBFF7A727638446A25007E9C5CCC062FB,
   0xBFF76AC88DAD5B1BDFF50225C6B4C1CC,
   0xBFF7335E5D594988AE1D5EA3ECCD2509,
   0xBFF700D30AEAC0E0F46D4CEF69917D84,
   0xBFF6A622BA40FD58BB4FA163C2165ECF,
   0xBFF65409488E2F491751639682E04716,
   0xBFF60B316B3C740D1147FB37EA066E58,
   0xBFF596E79BBB65970DB827D7F8816358,
   0xBFF52954293F66866A2FA5D98288F315,
   0xBFF49ABB50B78FA63229080B5EC826E5,
   0xBFF40576279D1111C05CF1D753622278,
   0xBFF32494A3232AFA2E6D2F9E6059928F,
   0xBFF202B2C49AC23A4F91D082DCE3DDCD,
   0xBFF00157588DE7128CCC5A82F9DA00F5,
   0x00000000000000000000000000000000,
   0xBFEFFD594EF987703C896FC6E23D7D2D,
   0xBFF1FABA781FE0E183092C59642A1549,
   0xBFF31B93E0A93B955B602ACE3A50FF89,
   0xBFF3F593C61F33FECC1C0FB0E10DD605,
   0xBFF485E118050A815BFA937F551BAC6E,
   0xBFF5174E139A460773961ABC236B4FA7,
   0xBFF57A451DCD1C827AE5D6704C12645B]

/-- `LOGTBL[46]` to `LOGTBL[68]` (R55). -/
def logtbl46 : List XF :=
  [0xBFF5EB9E7FDD3AB33D066D1D22299A1E,
   0xBFF6359222B90A3E2F3B47D18459B437,
   0xBFF67C50D3C85C5EDACCF913DF65D916,
   0xBFF6C9F181F3CF812DB0E32F2BA0DD4F,
   0xBFF70F2D751A94B4641B664612E649BF,
   0xBFF73CBA29CE64DF0A534BD59A1254BD,
   0xBFF76D92C5B52A9C9AF42DD563C55B38,
   0xBFF7A1AB70A438BCEA29E8107E9E4E89,
   0xBFF7D8F891D50D1A161578001E0161EB,
   0xBFF809B767120AA2AAE8D7330366D8E2,
   0xBFF82881832F71A699688E85BF3D5172,
   0xBFF848D52AD0985FD6F9FB971A6518C1,
   0xBFF86AAD07E00ADCB3FA238EFE090597,
   0xBFF88E03DFE1708BC432693AA1CEC069,
   0xBFF8B2D4933482E1982C26AF0781E1F4,
   0xBFF8D91A1C5E4BC85D1BFE291C34E659,
   0xBFF90067C7AC36161BC60EFAFC6F6E23,
   0xBFF914F80C7316F1B955C4D1D9A2F21D,
   0xBFF92A3B7EF7937B720E4A694AFCFBFD,
   0xBFF9402FCD6F9B77B7EFFB7F411B3443,
   0xBFF956D2B185D4A5C4DF67C563A3B4C5,
   0xBFF96E21F00EA54E73647727C2B339EC,
   0xBFF9861B58BFA0069398CFF36419851A]

/-- `LOGTBL[69]` to `LOGTBL[91]` (R55). -/
def logtbl69 : List XF :=
  [0xBFF99EBCC5E93994EB0318BB78F0AB0F,
   0xBFF9B8041C32B2EF29ED13F08680232F,
   0xBFF9D1EF4A5822375237794D03657FC8,
   0xBFF9EC7C48EA868D0B0ABC000F00B0F5,
   0xBFFA03D48D08E9B26B79C86AF23DF37B,
   0xBFFA11B9E4A870755CAAAE64F21ACB4D,
   0xBFFA1FED35A597DF928EC217A5022D43,
   0xBFFA2E6D8EC6378E5046042FF3C7F9E4,
   0xBFFA3D3A0328DA9573B02FAA59A67184,
   0xBFFA4C51AA2A2CF8FE319C15477C8E90,
   0xBFFA5BB39F4B3302821CB8C55FE38888,
   0xBFFA6B5F0218434D2EDEBD612C515E68,
   0xBFFA7B52F610BCAE50A5B67D81F7E34F,
   0xBFFA8B8EA28F7167B1E99B72BD7BF262,
   0xBFFA9C1132B3C15594DD4C580919F784,
   0xBFFAACD9D54B5D0B1C68651945F97B90,
   0xBFFABDE7BCBCAC0E2179F6C1059CDACF,
   0xBFFACF3A1EF1D09EC17A42642661C65E,
   0xBFFAE0D0354443AF9259B35B04813CDC,
   0xBFFAF2A93C6903E97B1B614F982A873C,
   0xBFFB02623A2EA964EAD9524D7C99F430,
   0xBFFB0B909029FD8D6BDC9C7C23801EEA,
   0xBFFB14DF43518E1AB4242837567F8D74]

/-- The `LOGTBL` space, index `k = 0` to 91: `RN(ln t_k - (t_k - 1))`, the anchor 38 exactly +0 (R53 to
R55). -/
def logtblRom : List XF := logtbl0 ++ logtbl23 ++ logtbl46 ++ logtbl69

/-- `RomRead(space, i)`: the word at index `i`, none outside the ranges of R52. -/
def romRead (params : Params) : RomSpace → Nat → Option XF
  | .logtbl, i => logtblRom[i]?
  | .coef, i => params.coef[i]?
  | .const, i => constRom[i]?

end Sys2Proof.Machine
end

