-- ==== Sys2Proof/Machine/Operands.lean ====
section
/-! DEFINITION. Where a micro-operation's operands come from: a register (R24, R25, R31), a ROM word
(R11, R52), the input ports (R22); and the outputs the ports drive (R22, R26, R27, R30). -/

namespace Sys2Proof.Machine

/-- The outcome of a meaning or a step. -/
abbrev Result := Host.Outcome State Fault Refusal

/-- Reads a register: a register that holds no value "must not be read; a model makes such a read a fault"
(R31). -/
def readReg {α : Type} (name : Reg) (r : Register α) (k : α → Result) : Result :=
  if r.holds then k r.value else .fault (.noValue name)

/-- Reads a ROM word: an index outside the ranges of R52 is refused. -/
def readRom (s : State) (space : RomSpace) (i : Nat) (k : XF → Result) : Result :=
  match romRead s.params space i with
  | some v => k v
  | none => .refused (.romIndex space i)

/-- The input ports of a host that drives nothing: no reset, no request, no response taken. -/
def PortIn.quiet : PortIn := { rst := false, reqValid := false, reqX := 0, rspReady := false }

/-- What the host does at the coming edge; nothing when no input is left (log 7). -/
def State.now (s : State) : HostInput := s.inputs.headD (.edge .quiet)

/-- The input ports at the coming edge. A line of a host program offers its operand with `rsp_ready = 1`
and no reset (R80 and the programs of 95_test_vectors.md part 3). -/
def State.pins (s : State) : PortIn :=
  match s.now with
  | .edge p => p
  | .line x => { rst := false, reqValid := true, reqX := x, rspReady := true }

/-- Output `req_ready = (STEP == S_IDLE)` (R22). -/
def State.reqReady (s : State) : Bool := s.step == 0

/-- Output `rsp_valid = (STEP == S_DONE)` (R22). -/
def State.rspValid (s : State) : Bool := s.step == 55

/-- Output `rsp_y`: register `Y` while `rsp_valid` (R22), any value otherwise (R30, U5). The spec gives no
`rsp_y` at `STEP = 55` with a `Y` that holds no value, a state no run from reset is in; there it is a free
value too (DESIGN CHOICE, log 21), while the micro-operation `DONE` faults (R31). -/
def State.rspY (s : State) : XF :=
  if s.rspValid && s.y.holds then s.y.value else Config.rspYUnspecified s.edges

/-- Output `rsp_flags`: `FACC` while `rsp_valid` (R22), any value otherwise (R30, U5). -/
def State.rspFlags (s : State) : FlagBits :=
  if s.rspValid then s.facc else Config.rspFlagsUnspecified s.edges

end Sys2Proof.Machine
end

