-- ==== Sys2Proof/Machine/Ops.lean ====
section
/-! DEFINITION. The named operations over the state: register writes, `STEP <- c`, `raise` (the whole of
taking an exception here: R11, R250, R252), accepting a request (R245), reset (R280), and what a step
fetches (R23, R74, R80). -/

namespace Sys2Proof.Machine

/-- `STEP <- c` (R11). -/
def State.goto (s : State) (c : StepCode) : State := { s with step := c }

/-- `raise F`: `FACC <- FACC | F`. This is all an exception does: "it never transfers control" (R11), no
state is saved and there is no handler to return from (R250, R252, R255). -/
def State.raise (s : State) (f : FlagBits) : State := { s with facc := s.facc ||| f }

/-- `SGN <- v`. -/
def State.writeSgn (s : State) (v : BitVec 1) : State := { s with sgn := .holding v }
/-- `BEXP <- v`. -/
def State.writeBexp (s : State) (v : BitVec 15) : State := { s with bexp := .holding v }
/-- `FRAC <- v`. -/
def State.writeFrac (s : State) (v : BitVec 112) : State := { s with frac := .holding v }
/-- `CLS <- v`. -/
def State.writeCls (s : State) (v : OperandClass) : State := { s with cls := .holding v }
/-- `E0 <- v`. -/
def State.writeE0 (s : State) (v : BitVec 16) : State := { s with e0 := .holding v }
/-- `SIG <- v`. -/
def State.writeSig (s : State) (v : BitVec 113) : State := { s with sig := .holding v }
/-- `M17 <- v`. -/
def State.writeM17 (s : State) (v : BitVec 17) : State := { s with m17 := .holding v }
/-- `TIERB <- v`. -/
def State.writeTierb (s : State) (v : Bool) : State := { s with tierb := .holding v }
/-- `J <- v`. -/
def State.writeJ (s : State) (v : BitVec 7) : State := { s with j := .holding v }
/-- `K <- v`. -/
def State.writeK (s : State) (v : BitVec 7) : State := { s with k := .holding v }
/-- `E <- v`. -/
def State.writeE (s : State) (v : BitVec 16) : State := { s with e := .holding v }
/-- `NEAR1 <- v`. -/
def State.writeNear1 (s : State) (v : Bool) : State := { s with near1 := .holding v }
/-- `ISONE <- v`. -/
def State.writeIsone (s : State) (v : Bool) : State := { s with isone := .holding v }
/-- `X <- v`. -/
def State.writeX (s : State) (v : XF) : State := { s with x := .holding v }
/-- `U <- v`. -/
def State.writeU (s : State) (v : XF) : State := { s with u := .holding v }
/-- `T <- v`. -/
def State.writeT (s : State) (v : XF) : State := { s with t := .holding v }
/-- `Z <- v`. -/
def State.writeZ (s : State) (v : XF) : State := { s with z := .holding v }
/-- `W <- v`. -/
def State.writeW (s : State) (v : XF) : State := { s with w := .holding v }
/-- `P <- v`. -/
def State.writeP (s : State) (v : XF) : State := { s with p := .holding v }
/-- `EF <- v`. -/
def State.writeEf (s : State) (v : XF) : State := { s with ef := .holding v }
/-- `TMP <- v`. -/
def State.writeTmp (s : State) (v : XF) : State := { s with tmp := .holding v }
/-- `Y <- v`. -/
def State.writeY (s : State) (v : XF) : State := { s with y := .holding v }

/-- Every register of R24 and R25 becomes "holds no value" (R24, R30, R280). -/
def State.discard (s : State) : State :=
  { s with
    sgn := .unheld, bexp := .unheld, frac := .unheld, cls := .unheld, e0 := .unheld, sig := .unheld
    m17 := .unheld, tierb := .unheld, j := .unheld, k := .unheld, e := .unheld, near1 := .unheld
    isone := .unheld, x := .unheld, u := .unheld, t := .unheld, z := .unheld, w := .unheld
    p := .unheld, ef := .unheld, tmp := .unheld, y := .unheld }

/-- The accepting edge: `X <- req_x`, `FACC <- 0`, `STEP <- 1` (R245). "A register that no micro-operation
has written since the last accepted request holds no value" (R24), so every other register is discarded
(R31). -/
def State.accept (s : State) (x : XF) : State :=
  (({ s.discard with facc := 0 } : State).writeX x).goto 1

/-- The register transfer of an edge with `rst = 1`, whatever `STEP` and the inputs are (R280, R281). -/
def State.resetEdge (s : State) : State := ({ s.discard with facc := 0 } : State).goto 0

/-- Every register of R24 and R25 holds the value it has. Used only to place the sequencer inside an
operation (`State.withFetchWord`, log 6). -/
def State.holdAll (s : State) : State :=
  { s with
    sgn := .holding s.sgn.value, bexp := .holding s.bexp.value, frac := .holding s.frac.value
    cls := .holding s.cls.value, e0 := .holding s.e0.value, sig := .holding s.sig.value
    m17 := .holding s.m17.value, tierb := .holding s.tierb.value, j := .holding s.j.value
    k := .holding s.k.value, e := .holding s.e.value, near1 := .holding s.near1.value
    isone := .holding s.isone.value, x := .holding s.x.value, u := .holding s.u.value
    t := .holding s.t.value, z := .holding s.z.value, w := .holding s.w.value
    p := .holding s.p.value, ef := .holding s.ef.value, tmp := .holding s.tmp.value
    y := .holding s.y.value }

/-- `v <-f op(a, b)` with the destination `TMP` (R11). -/
def State.fpTmp (s : State) (r : FP.Result) : State := (s.raise r.flags).writeTmp r.value
/-- `v <-f op(a, b)` with the destination `Y` (R11). -/
def State.fpY (s : State) (r : FP.Result) : State := (s.raise r.flags).writeY r.value
/-- `v <-f op(a, b)` with the destination `Z` (R11). -/
def State.fpZ (s : State) (r : FP.Result) : State := (s.raise r.flags).writeZ r.value
/-- `v <-f op(a, b)` with the destination `W` (R11). -/
def State.fpW (s : State) (r : FP.Result) : State := (s.raise r.flags).writeW r.value
/-- `v <-f op(a, b)` with the destination `P` (R11). -/
def State.fpP (s : State) (r : FP.Result) : State := (s.raise r.flags).writeP r.value

/-- One register transfer after another: the next begins when the first has a next state (R283). -/
def andThen (r : Result) (k : State → Result) : Result :=
  match r with
  | .next t => k t
  | .fault f => .fault f
  | .refused q => .refused q

/-- The request a host line offers to an idle block, if that is what the coming edge is (R80, R245). -/
def State.acceptedLine (s : State) : Option XF :=
  match s.now with
  | .line x => if s.step = 0 then some x else none
  | .edge _ => none

/-- What a step runs: a host line offered to the idle block is one `LN` transaction, decoded from its
request word (R80, R81); otherwise the micro-operation whose code `STEP` holds (R23, R74). -/
def State.fetch (s : State) : Except DecodeError Instr :=
  match s.acceptedLine with
  | some x => decode (.req x)
  | none => decode (.uop s.step)

/-- The inputs left after the step: an edge is used up, a line stays offered until it is accepted (R284
item 2). -/
def State.remaining (s : State) : List HostInput :=
  match s.now with
  | .edge _ => s.inputs.tail
  | .line _ => if s.step = 0 then s.inputs.tail else s.inputs

/-- The host side after a step from `s` that gave `t`. -/
def State.advanceFrom (t s : State) : State :=
  { t with inputs := s.remaining, edges := s.edges + 1 }

/-- The input at the coming edge made an edge at which a micro-operation executes: an edge without reset
keeps its other ports, a host line gives way to an edge that drives nothing. -/
def HostInput.running : HostInput → HostInput
  | .edge p => .edge { p with rst := false }
  | .line _ => .edge .quiet

end Sys2Proof.Machine
end

