-- ==== Sys2Proof/Machine/Accumulator.lean ====
section
/-! DEFINITION. The precision_accumulator's micro-operations, codes 43 to 54 but for `LUT`
(45_precision_accumulator.md). -/

namespace Sys2Proof.Machine

/-- `HW` (R230): `TMP <-f fmul(HALF, W)`. -/
def execHw (s : State) : Result :=
  readRom s .const 2 fun half =>
  readReg .w s.w fun w =>
    .next ((s.fpTmp (FP.fmul s.params.defaultNan half w)).goto 44)

/-- `Y <-f fadd(Y, TMP)`, the shared form of `ACC2`, `ACC4`, `ACC5`, `ACC6`. -/
def addTmpToY (nextStep : StepCode) (s : State) : Result :=
  readReg .y s.y fun y =>
  readReg .tmp s.tmp fun tmp =>
    .next ((s.fpY (FP.fadd s.params.defaultNan y tmp)).goto nextStep)

/-- `ACC1` (R231): `Y <-f fsub(Y, TMP)`. -/
def execAcc1 (s : State) : Result :=
  readReg .y s.y fun y =>
  readReg .tmp s.tmp fun tmp =>
    .next ((s.fpY (FP.fsub s.params.defaultNan y tmp)).goto 45)

/-- `ECVT` (R232): `EF <- i2f(E)`, no flag. -/
def execEcvt (s : State) : Result :=
  readReg .e s.e fun e => .next ((s.writeEf (FP.i2f e)).goto 46)

/-- `EB` (R233): `TMP <-f fmul(EF, LN2B)`. -/
def execEb (s : State) : Result :=
  readReg .ef s.ef fun ef =>
  readRom s .const 7 fun ln2b =>
    .next ((s.fpTmp (FP.fmul s.params.defaultNan ef ln2b)).goto 47)

/-- `ACC2` (R234): `Y <-f fadd(Y, TMP)`. -/
def execAcc2 (s : State) : Result := addTmpToY 48 s

/-- `ACC3` (R235): `Y <-f fadd(Y, Z)`. -/
def execAcc3 (s : State) : Result :=
  readReg .y s.y fun y =>
  readReg .z s.z fun z =>
    .next ((s.fpY (FP.fadd s.params.defaultNan y z)).goto 49)

/-- `ACC4` (R237): `Y <-f fadd(Y, TMP)`. -/
def execAcc4 (s : State) : Result := addTmpToY 51 s

/-- `TM1` (R238): `TMP <-f fsub(T, ONE)`. -/
def execTm1 (s : State) : Result :=
  readReg .t s.t fun t =>
  readRom s .const 3 fun one =>
    .next ((s.fpTmp (FP.fsub s.params.defaultNan t one)).goto 52)

/-- `ACC5` (R239): `Y <-f fadd(Y, TMP)`. -/
def execAcc5 (s : State) : Result := addTmpToY 53 s

/-- `EA` (R240): `TMP <-f fmul(EF, LN2A)`. -/
def execEa (s : State) : Result :=
  readReg .ef s.ef fun ef =>
  readRom s .const 6 fun ln2a =>
    .next ((s.fpTmp (FP.fmul s.params.defaultNan ef ln2a)).goto 54)

/-- `ACC6` (R241): `Y <-f fadd(Y, TMP)`. -/
def execAcc6 (s : State) : Result := addTmpToY 55 s

end Sys2Proof.Machine
end

