-- ==== Sys2Proof/Machine/Classifier.lean ====
section
/-! DEFINITION. The special_case_classifier's micro-operations (42_special_case_classifier.md). Each special
exit applies the spec's arithmetic expression, not a constant. -/

namespace Sys2Proof.Machine

/-- The three tests of R160, in their order. -/
def classOf (sgn : BitVec 1) (bexp : BitVec 15) (frac : BitVec 112) : OperandClass :=
  if bexp = 0 ∧ frac = 0 then .zero
  else if sgn = 1 then .neg
  else if bexp = 0x7FFF then .special
  else .posfin

/-- The successor of `CLASSIFY` (R160, R74). -/
def classSuccessor : OperandClass → StepCode
  | .zero => 3
  | .neg => 4
  | .special => 6
  | .posfin => 7

/-- `CLASSIFY` (R160). -/
def execClassify (s : State) : Result :=
  readReg .sgn s.sgn fun sgn =>
  readReg .bexp s.bexp fun bexp =>
  readReg .frac s.frac fun frac =>
    let c := classOf sgn bexp frac
    .next ((s.writeCls c).goto (classSuccessor c))

/-- `SPC.ZERO` (R162): `Y <-f fdiv(MHALF, ZERO)`. -/
def execSpcZero (s : State) : Result :=
  readRom s .const 1 fun mhalf =>
  readRom s .const 0 fun zero =>
    .next ((s.fpY (FP.fdiv s.params.defaultNan mhalf zero)).goto 55)

/-- `SPC.NEG1` (R163): `TMP <-f fsub(X, X)`. -/
def execSpcNeg1 (s : State) : Result :=
  readReg .x s.x fun x =>
    .next ((s.fpTmp (FP.fsub s.params.defaultNan x x)).goto 5)

/-- `SPC.NEG2` (R164): `Y <-f fdiv(TMP, ZERO)`. -/
def execSpcNeg2 (s : State) : Result :=
  readReg .tmp s.tmp fun tmp =>
  readRom s .const 0 fun zero =>
    .next ((s.fpY (FP.fdiv s.params.defaultNan tmp zero)).goto 55)

/-- `SPC.INFNAN` (R165): `Y <-f fadd(X, X)`. -/
def execSpcInfnan (s : State) : Result :=
  readReg .x s.x fun x =>
    .next ((s.fpY (FP.fadd s.params.defaultNan x x)).goto 55)

end Sys2Proof.Machine
end

