-- ==== Sys2Proof/Machine/Decomposer.lean ====
section
/-! DEFINITION. The bit_decomposer's micro-operations, `DECOMP` and `NORM` (41_bit_decomposer.md). -/

namespace Sys2Proof.Machine

/-- `DECOMP` (R140): the three fields of `X`. -/
def execDecomp (s : State) : Result :=
  readReg .x s.x fun x =>
    .next ((((s.writeSgn x.sign).writeBexp x.bexp).writeFrac x.frac).goto 2)

/-- The exponent and significand of a normal operand (R142, first branch). -/
def normalOperand (bexp : BitVec 15) (frac : BitVec 112) : BitVec 16 × BitVec 113 :=
  (bexp.setWidth 16 - 16383, 1#1 ++ frac)

/-- The exponent and significand of a subnormal operand (R142, second branch). -/
def subnormalOperand (frac : BitVec 112) : BitVec 16 × BitVec 113 :=
  let shift := XF.leadingZeros frac + 1
  (BitVec.ofInt 16 (-16382 - (shift : ℤ)), frac.setWidth 113 <<< shift)

/-- `normalise(BEXP, FRAC)`, giving `(E0, SIG)` (R142). -/
def normalise (bexp : BitVec 15) (frac : BitVec 112) : BitVec 16 × BitVec 113 :=
  if bexp ≠ 0 then normalOperand bexp frac else subnormalOperand frac

/-- `NORM` (R142). -/
def execNorm (s : State) : Result :=
  readReg .bexp s.bexp fun bexp =>
  readReg .frac s.frac fun frac =>
    let r := normalise bexp frac
    .next (((s.writeE0 r.1).writeSig r.2).goto 8)

end Sys2Proof.Machine
end

