-- ==== Sys2Proof/Machine/Poly.lean ====
section
/-! DEFINITION. The poly_evaluator_degree15's micro-operations, codes 15 to 42
(44_poly_evaluator_degree15.md). -/

namespace Sys2Proof.Machine

/-- `SQR` (R211): `W <-f fmul(Z, Z)`. -/
def execSqr (s : State) : Result :=
  readReg .z s.z fun z =>
    .next ((s.fpW (FP.fmul s.params.defaultNan z z)).goto 16)

/-- `PINIT` (R212): `P <- COEF[15]`, a copy. -/
def execPinit (s : State) : Result :=
  readRom s .coef 12 fun l15 => .next ((s.writeP l15).goto 17)

/-- The one rule of the twelve `PMUL.n` (R213): `P <-f fmul(P, Z)`, `STEP <- STEP + 1`. -/
def pmul (s : State) : Result :=
  readReg .p s.p fun p =>
  readReg .z s.z fun z =>
    .next ((s.fpP (FP.fmul s.params.defaultNan p z)).goto (s.step + 1))

/-- The one rule of the twelve `PADD.n` (R214): `P <-f fadd(P, COEF[n])`, `STEP <- STEP + 1`. -/
def padd (n : Nat) (s : State) : Result :=
  readReg .p s.p fun p =>
  readRom s .coef (n - 3) fun c =>
    .next ((s.fpP (FP.fadd s.params.defaultNan p c)).goto (s.step + 1))

/-- `PMUL.14` (R213). -/
def execPmul14 (s : State) : Result := pmul s
/-- `PADD.14` (R214). -/
def execPadd14 (s : State) : Result := padd 14 s
/-- `PMUL.13` (R213). -/
def execPmul13 (s : State) : Result := pmul s
/-- `PADD.13` (R214). -/
def execPadd13 (s : State) : Result := padd 13 s
/-- `PMUL.12` (R213). -/
def execPmul12 (s : State) : Result := pmul s
/-- `PADD.12` (R214). -/
def execPadd12 (s : State) : Result := padd 12 s
/-- `PMUL.11` (R213). -/
def execPmul11 (s : State) : Result := pmul s
/-- `PADD.11` (R214). -/
def execPadd11 (s : State) : Result := padd 11 s
/-- `PMUL.10` (R213). -/
def execPmul10 (s : State) : Result := pmul s
/-- `PADD.10` (R214). -/
def execPadd10 (s : State) : Result := padd 10 s
/-- `PMUL.9` (R213). -/
def execPmul9 (s : State) : Result := pmul s
/-- `PADD.9` (R214). -/
def execPadd9 (s : State) : Result := padd 9 s
/-- `PMUL.8` (R213). -/
def execPmul8 (s : State) : Result := pmul s
/-- `PADD.8` (R214). -/
def execPadd8 (s : State) : Result := padd 8 s
/-- `PMUL.7` (R213). -/
def execPmul7 (s : State) : Result := pmul s
/-- `PADD.7` (R214). -/
def execPadd7 (s : State) : Result := padd 7 s
/-- `PMUL.6` (R213). -/
def execPmul6 (s : State) : Result := pmul s
/-- `PADD.6` (R214). -/
def execPadd6 (s : State) : Result := padd 6 s
/-- `PMUL.5` (R213). -/
def execPmul5 (s : State) : Result := pmul s
/-- `PADD.5` (R214). -/
def execPadd5 (s : State) : Result := padd 5 s
/-- `PMUL.4` (R213). -/
def execPmul4 (s : State) : Result := pmul s
/-- `PADD.4` (R214). -/
def execPadd4 (s : State) : Result := padd 4 s
/-- `PMUL.3` (R213). -/
def execPmul3 (s : State) : Result := pmul s
/-- `PADD.3` (R214). -/
def execPadd3 (s : State) : Result := padd 3 s

/-- `QMUL` (R215): `P <-f fmul(P, Z)`. -/
def execQmul (s : State) : Result :=
  readReg .p s.p fun p =>
  readReg .z s.z fun z =>
    .next ((s.fpP (FP.fmul s.params.defaultNan p z)).goto 42)

/-- `SER` (R216): `Y <-f fmul(P, W)`. -/
def execSer (s : State) : Result :=
  readReg .p s.p fun p =>
  readReg .w s.w fun w =>
    .next ((s.fpY (FP.fmul s.params.defaultNan p w)).goto 43)

end Sys2Proof.Machine
end

