-- ==== Sys2Proof/Machine/Reducer.lean ====
section
/-! DEFINITION. The range_reducer_with_lut's micro-operations (43_range_reducer_with_lut.md), `LUT` among
them (R197, R236). -/

namespace Sys2Proof.Machine

/-- `TIER_THRESHOLD`, 1.40625 in 16 fraction bits (R8, R182). -/
def tierThreshold : BitVec 17 := 0x16800

/-- `J` of tier A (R182). -/
def tierAIndex (m17 : BitVec 17) : BitVec 7 := ((m17 - 0xFF00) >>> 9).setWidth 7

/-- `J` of tier B (R182). -/
def tierBIndex (m17 : BitVec 17) : BitVec 7 := ((m17 - 0xFE00) >>> 10).setWidth 7

/-- `INDEX` (R182). -/
def execIndex (s : State) : Result :=
  readReg .sig s.sig fun sig =>
  readReg .e0 s.e0 fun e0 =>
    let m17 : BitVec 17 := sig.extractLsb' 96 17
    let s' := s.writeM17 m17
    if m17 < tierThreshold then
      let j := tierAIndex m17
      .next (((((s'.writeTierb false).writeJ j).writeK (j + 38)).writeE e0).goto 9)
    else
      let j := tierBIndex m17
      .next (((((s'.writeTierb true).writeJ j).writeK (j - 26)).writeE (e0 + 1)).goto 9)

/-- `W0t`, the top word of the grid point: a 32-bit sum, so that tier B with `J = 64` carries into the
exponent field (R187). -/
def gridWord (tierb : Bool) (j : BitVec 7) : BitVec 32 :=
  if tierb then 0x3FFE0000 + (j.setWidth 32 <<< 10) else 0x3FFF0000 + (j.setWidth 32 <<< 9)

/-- `U`, the significand realigned into `[0.703125, 1.40625)` (R187). -/
def realign (tierb : Bool) (sig : BitVec 113) : XF :=
  XF.pack 0 (if tierb then 0x3FFE else 0x3FFF) (sig.extractLsb' 0 112)

/-- `TBUILD` (R187). -/
def execTbuild (s : State) : Result :=
  readReg .tierb s.tierb fun tierb =>
  readReg .j s.j fun j =>
  readReg .sig s.sig fun sig =>
    .next (((s.writeT (gridWord tierb j ++ 0#96)).writeU (realign tierb sig)).goto 10)

/-- `BAND` (R191). `fle` is not defined on a NaN (R113). -/
def execBand (s : State) : Result :=
  readReg .x s.x fun x =>
  readRom s .const 4 fun lo =>
  readRom s .const 5 fun hi =>
  readRom s .const 3 fun one =>
    match FP.fle lo x, FP.fle x hi with
    | some ge, some le =>
      let near1 := ge && le
      let isone := x == one
      .next (((s.writeNear1 near1).writeIsone isone).goto
        (if isone then 11 else if near1 then 12 else 13))
    | _, _ => .refused .fleOfNan

/-- `SPC.ONE` (R192): `Y <- +0`, no primitive. -/
def execSpcOne (s : State) : Result := .next ((s.writeY 0).goto 55)

/-- `ZNEAR` (R193). -/
def execZnear (s : State) : Result :=
  readReg .x s.x fun x =>
  readRom s .const 3 fun one =>
    .next (((((s.fpZ (FP.fsub s.params.defaultNan x one)).writeK 38).writeT one).writeE 0).goto 15)

/-- `ZSUB` (R194): `TMP <-f fsub(U, T)`. -/
def execZsub (s : State) : Result :=
  readReg .u s.u fun u =>
  readReg .t s.t fun t =>
    .next ((s.fpTmp (FP.fsub s.params.defaultNan u t)).goto 14)

/-- `ZDIV` (R195): `Z <-f fdiv(TMP, T)`. -/
def execZdiv (s : State) : Result :=
  readReg .tmp s.tmp fun tmp =>
  readReg .t s.t fun t =>
    .next ((s.fpZ (FP.fdiv s.params.defaultNan tmp t)).goto 15)

/-- `LUT` (R236): `TMP <- RomRead(LOGTBL, K)`, a copy. -/
def execLut (s : State) : Result :=
  readReg .k s.k fun k =>
  readRom s .logtbl k.toNat fun v =>
    .next ((s.writeTmp v).goto 50)

end Sys2Proof.Machine
end

