-- ==== Sys2Proof/Machine/Sequencer.lean ====
section
/-! DEFINITION. The sequencer's own micro-operations, `IDLE` and `DONE` (46_handshake.md). -/

namespace Sys2Proof.Machine

/-- `IDLE` (R245): with `req_valid = 1` the request is accepted; otherwise nothing changes. -/
def execIdle (s : State) : Result :=
  if s.pins.reqValid then .next (s.accept s.pins.reqX) else .next (s.goto 0)

/-- `DONE` (R246): drives `rsp_y = Y`; `STEP <- 0` when the response is taken, otherwise hold. -/
def execDone (s : State) : Result :=
  readReg .y s.y fun _ => if s.pins.rspReady then .next (s.goto 0) else .next (s.goto 55)

end Sys2Proof.Machine
end

