-- ==== Sys2Proof/Machine/Transaction.lean ====
section
/-! DEFINITION. The host-level operation `LN` as one transaction (46_handshake.md R247): the composition of
the register transfers of the micro-operations on the path of the operand's class, from the accepting edge
to the state that offers the response (30_encoding.md R77). -/

namespace Sys2Proof.Machine

/-- Micro-operations one after another. -/
def runList : List (State → Result) → State → Result
  | [], s => .next s
  | f :: fs, s => andThen (f s) (runList fs)

/-- Codes 15 to 54: the series and the accumulation, the end of the paths `NEAR1` and `GEN` (R77). -/
def seriesAndAccumulate : List (State → Result) :=
  [execSqr, execPinit,
   execPmul14, execPadd14, execPmul13, execPadd13, execPmul12, execPadd12,
   execPmul11, execPadd11, execPmul10, execPadd10, execPmul9, execPadd9,
   execPmul8, execPadd8, execPmul7, execPadd7, execPmul6, execPadd6,
   execPmul5, execPadd5, execPmul4, execPadd4, execPmul3, execPadd3,
   execQmul, execSer, execHw, execAcc1, execEcvt, execEb,
   execAcc2, execAcc3, execLut, execAcc4, execTm1, execAcc5,
   execEa, execAcc6]

/-- From `BAND`'s successor to `DONE` (R74, R77). -/
def afterBand (s : State) : Result :=
  if s.step = 11 then execSpcOne s
  else if s.step = 12 then runList (execZnear :: seriesAndAccumulate) s
  else runList (execZsub :: execZdiv :: seriesAndAccumulate) s

/-- From `CLASSIFY`'s successor to `DONE` (R74, R77). -/
def afterClassify (s : State) : Result :=
  if s.step = 3 then execSpcZero s
  else if s.step = 4 then runList [execSpcNeg1, execSpcNeg2] s
  else if s.step = 6 then execSpcInfnan s
  else runList [execNorm, execIndex, execTbuild, execBand, afterBand] s

/-- `LN x` offered to the block: when it is idle the request is accepted and the operation runs until the
response is offered (R245, R247); while an operation is in flight or a response waits, "`req_valid` is
ignored" (R245) and nothing changes. -/
def transact (x : XF) (s : State) : Result :=
  if s.step = 0 then runList [execDecomp, execClassify, afterClassify] (s.accept x) else .next s

/-- `LN` (R247). -/
def execLn (x : XF) (s : State) : Result := transact x s

/-- `LN.ZERO` (R162), path 0, 1, 2, 3, 55. -/
def execLnZero (sign : BitVec 1) (s : State) : Result := transact (requestWord (.lnZero sign)) s

/-- `LN.NEG` (R163, R164), path 0, 1, 2, 4, 5, 55. -/
def execLnNeg (mag : BitVec 127) (s : State) : Result := transact (requestWord (.lnNeg mag)) s

/-- `LN.SPECIAL` (R165), path 0, 1, 2, 6, 55. -/
def execLnSpecial (frac : BitVec 112) (s : State) : Result :=
  transact (requestWord (.lnSpecial frac)) s

/-- `LN.ONE` (R192), path 0, 1, 2, 7, 8, 9, 10, 11, 55. -/
def execLnOne (s : State) : Result := transact (requestWord .lnOne) s

/-- `LN.NEAR1` (R193), pattern 1, path 0, 1, 2, 7, 8, 9, 10, 12, 15 to 55. -/
def execLnNear1Below (low : BitVec 106) (s : State) : Result :=
  transact (requestWord (.lnNear1Below low)) s

/-- `LN.NEAR1` (R193), pattern 2, the same path. -/
def execLnNear1Above (low : BitVec 105) (s : State) : Result :=
  transact (requestWord (.lnNear1Above low)) s

/-- `LN.NEAR1` (R193), pattern 3, the same path. -/
def execLnNear1Top (s : State) : Result := transact (requestWord .lnNear1Top) s

/-- `LN.GEN` (R194, R195), path 0, 1, 2, 7, 8, 9, 10, 13, 14, 15 to 55. -/
def execLnGen (x : XF) (s : State) : Result := transact (requestWord (.lnGen x)) s

end Sys2Proof.Machine
end

