-- ==== Sys2Proof/Machine/Dispatch.lean ====
section
/-! DEFINITION. `exec`: one arm per row of spec/opcode_table.json, each one direct call of its meaning. -/

namespace Sys2Proof.Machine

def exec (i : Instr) (s : State) : Host.Outcome State Fault Refusal :=
  match i with
  | .ln x => Sys2Proof.Machine.execLn x s
  | .lnZero sign => Sys2Proof.Machine.execLnZero sign s
  | .lnNeg mag => Sys2Proof.Machine.execLnNeg mag s
  | .lnSpecial frac => Sys2Proof.Machine.execLnSpecial frac s
  | .lnOne => Sys2Proof.Machine.execLnOne s
  | .lnNear1Below low => Sys2Proof.Machine.execLnNear1Below low s
  | .lnNear1Above low => Sys2Proof.Machine.execLnNear1Above low s
  | .lnNear1Top => Sys2Proof.Machine.execLnNear1Top s
  | .lnGen x => Sys2Proof.Machine.execLnGen x s
  | .idle => Sys2Proof.Machine.execIdle s
  | .decomp => Sys2Proof.Machine.execDecomp s
  | .classify => Sys2Proof.Machine.execClassify s
  | .spcZero => Sys2Proof.Machine.execSpcZero s
  | .spcNeg1 => Sys2Proof.Machine.execSpcNeg1 s
  | .spcNeg2 => Sys2Proof.Machine.execSpcNeg2 s
  | .spcInfnan => Sys2Proof.Machine.execSpcInfnan s
  | .norm => Sys2Proof.Machine.execNorm s
  | .index => Sys2Proof.Machine.execIndex s
  | .tbuild => Sys2Proof.Machine.execTbuild s
  | .band => Sys2Proof.Machine.execBand s
  | .spcOne => Sys2Proof.Machine.execSpcOne s
  | .znear => Sys2Proof.Machine.execZnear s
  | .zsub => Sys2Proof.Machine.execZsub s
  | .zdiv => Sys2Proof.Machine.execZdiv s
  | .sqr => Sys2Proof.Machine.execSqr s
  | .pinit => Sys2Proof.Machine.execPinit s
  | .pmul14 => Sys2Proof.Machine.execPmul14 s
  | .padd14 => Sys2Proof.Machine.execPadd14 s
  | .pmul13 => Sys2Proof.Machine.execPmul13 s
  | .padd13 => Sys2Proof.Machine.execPadd13 s
  | .pmul12 => Sys2Proof.Machine.execPmul12 s
  | .padd12 => Sys2Proof.Machine.execPadd12 s
  | .pmul11 => Sys2Proof.Machine.execPmul11 s
  | .padd11 => Sys2Proof.Machine.execPadd11 s
  | .pmul10 => Sys2Proof.Machine.execPmul10 s
  | .padd10 => Sys2Proof.Machine.execPadd10 s
  | .pmul9 => Sys2Proof.Machine.execPmul9 s
  | .padd9 => Sys2Proof.Machine.execPadd9 s
  | .pmul8 => Sys2Proof.Machine.execPmul8 s
  | .padd8 => Sys2Proof.Machine.execPadd8 s
  | .pmul7 => Sys2Proof.Machine.execPmul7 s
  | .padd7 => Sys2Proof.Machine.execPadd7 s
  | .pmul6 => Sys2Proof.Machine.execPmul6 s
  | .padd6 => Sys2Proof.Machine.execPadd6 s
  | .pmul5 => Sys2Proof.Machine.execPmul5 s
  | .padd5 => Sys2Proof.Machine.execPadd5 s
  | .pmul4 => Sys2Proof.Machine.execPmul4 s
  | .padd4 => Sys2Proof.Machine.execPadd4 s
  | .pmul3 => Sys2Proof.Machine.execPmul3 s
  | .padd3 => Sys2Proof.Machine.execPadd3 s
  | .qmul => Sys2Proof.Machine.execQmul s
  | .ser => Sys2Proof.Machine.execSer s
  | .hw => Sys2Proof.Machine.execHw s
  | .acc1 => Sys2Proof.Machine.execAcc1 s
  | .ecvt => Sys2Proof.Machine.execEcvt s
  | .eb => Sys2Proof.Machine.execEb s
  | .acc2 => Sys2Proof.Machine.execAcc2 s
  | .acc3 => Sys2Proof.Machine.execAcc3 s
  | .lut => Sys2Proof.Machine.execLut s
  | .acc4 => Sys2Proof.Machine.execAcc4 s
  | .tm1 => Sys2Proof.Machine.execTm1 s
  | .acc5 => Sys2Proof.Machine.execAcc5 s
  | .ea => Sys2Proof.Machine.execEa s
  | .acc6 => Sys2Proof.Machine.execAcc6 s
  | .done => Sys2Proof.Machine.execDone s

end Sys2Proof.Machine
end

