-- ==== Sys2Proof/Machine/Step.lean ====
section
/-! DEFINITION. One step of the block: one rising clock edge at which a micro-operation takes effect, an
edge with `rst = 1`, or one whole transaction of a host line (R23, R80, R247, R280, R286). -/

namespace Sys2Proof.Machine

/-- The host side moves on when a meaning gives a next state. -/
def advance (s : State) (r : Result) : Result := andThen r fun t => .next (t.advanceFrom s)

/-- One step. `rst = 1` resets whatever `STEP` and the other inputs are, "and no micro-operation executes
at that edge" (R280); a reserved code has no step (R78). -/
def step (s : State) : Host.Outcome State Fault Refusal :=
  if s.pins.rst then .next (s.resetEdge.advanceFrom s)
  else
    match s.fetch with
    | .ok i => advance s (exec i s)
    | .error (.reservedCode code) => .refused (.reservedStep code)

/-- `s` with the instruction whose bits are `w` where the next step fetches it. A word of 1 to 8 bits is a
sequencer code: `STEP` holds it, the coming edge is one without reset, and, the sequencer being placed
inside an operation, every register holds the value it has (R31). A longer word is a request: the block is
idle and the host's next input is the line that offers it. -/
def State.withFetchWord (s : State) (nbits w : Nat) : State :=
  if 1 ≤ nbits ∧ nbits ≤ 8 then
    { s.holdAll with
      step := BitVec.ofNat 6 w
      inputs := s.now.running :: s.inputs.tail }
  else
    { s with
      step := 0
      inputs := .line (BitVec.ofNat 128 (w % 2 ^ nbits)) :: s.inputs }

end Sys2Proof.Machine
end

