-- ==== Sys2Proof/Safety.lean ====
section
/-! DEFINITION. What counts as a safe run, in the terms the claims use: the state invariant (R31, R56,
R103, R190), reachability from reset, the paths of the sequencer (R77), the value an encoding should have
(R104), and the row of the opcode table an instruction stands for. -/

namespace Sys2Proof

namespace Machine

/-- Whether a register holds a value (R31). -/
def State.holdsReg (s : State) : Reg → Bool
  | .sgn => s.sgn.holds
  | .bexp => s.bexp.holds
  | .frac => s.frac.holds
  | .cls => s.cls.holds
  | .e0 => s.e0.holds
  | .sig => s.sig.holds
  | .m17 => s.m17.holds
  | .tierb => s.tierb.holds
  | .j => s.j.holds
  | .k => s.k.holds
  | .e => s.e.holds
  | .near1 => s.near1.holds
  | .isone => s.isone.holds
  | .x => s.x.holds
  | .u => s.u.holds
  | .t => s.t.holds
  | .z => s.z.holds
  | .w => s.w.holds
  | .p => s.p.holds
  | .ef => s.ef.holds
  | .tmp => s.tmp.holds
  | .y => s.y.holds

/-- The registers that some micro-operation from code `c` on, up to `DONE`, reads before it is written: the
read-by and written-by columns of R24 and R25 along the successor relation of R74. -/
def liveAt (c : StepCode) : List Reg :=
  match c.toNat with
  | 1 => [.x]
  | 2 => [.x, .sgn, .bexp, .frac]
  | 4 => [.x]
  | 5 => [.tmp]
  | 6 => [.x]
  | 7 => [.x, .bexp, .frac]
  | 8 => [.x, .e0, .sig]
  | 9 => [.x, .sig, .tierb, .j, .k, .e]
  | 10 => [.x, .u, .t, .k, .e]
  | 12 => [.x]
  | 13 => [.u, .t, .k, .e]
  | 14 => [.tmp, .t, .k, .e]
  | 15 => [.z, .t, .k, .e]
  | 16 => [.w, .z, .t, .k, .e]
  | 43 => [.y, .w, .z, .t, .k, .e]
  | 44 => [.y, .tmp, .z, .t, .k, .e]
  | 45 => [.y, .z, .t, .k, .e]
  | 46 => [.y, .ef, .z, .t, .k]
  | 47 => [.y, .tmp, .ef, .z, .t, .k]
  | 48 => [.y, .ef, .z, .t, .k]
  | 49 => [.y, .ef, .t, .k]
  | 50 => [.y, .tmp, .ef, .t]
  | 51 => [.y, .ef, .t]
  | 52 => [.y, .tmp, .ef]
  | 53 => [.y, .ef]
  | 54 => [.y, .tmp]
  | 55 => [.y]
  | n => if 17 ≤ n ∧ n ≤ 42 then [.p, .w, .z, .t, .k, .e] else []

/-- A positive, finite, non-zero encoding: the class `POSFIN` (R160). -/
def posFinite (x : XF) : Bool := x.sign == 0 && x.isFinite && !x.isZero

/-- What R56 lets a model assume of `COEF[n]`: finite and normal, magnitude from 1/16 to 1/2, positive for
odd `n`, negative for even `n`. -/
def coefAllowed (n : Nat) (c : XF) : Prop :=
  c.isNormal ∧ 1 / 16 ≤ |FP.val c| ∧ |FP.val c| ≤ 1 / 2 ∧
    (n % 2 = 1 → 0 < FP.val c) ∧ (n % 2 = 0 → FP.val c < 0)

/-- The OPEN parameters are as R56 and R103 constrain them. -/
def Params.Allowed (p : Params) : Prop :=
  (∀ i : Fin 13, coefAllowed (i + 3) p.coef[i]) ∧ p.defaultNan.isQuietNaN

/-- The state invariant: `STEP` is one of the codes 0 to 55 (R78); every register a later micro-operation
reads holds a value (R31); while the classifier's fields are live they are the fields of `X` (R140); from
`NORM` to `BAND` the operand is positive, finite and non-zero (R142, R191); `SIG` is normalised at `INDEX`
(R24, R142); and the index `K` lies in `LOGTBL` until `LUT` reads it (R190). -/
structure State.Inv (s : State) : Prop where
  code : s.step.toNat ≤ 55
  live : ∀ r ∈ liveAt s.step, s.holdsReg r = true
  fields : s.step = 2 ∨ s.step = 7 →
    s.sgn.value = s.x.value.sign ∧ s.bexp.value = s.x.value.bexp ∧ s.frac.value = s.x.value.frac
  operand : 7 ≤ s.step.toNat ∧ s.step.toNat ≤ 10 → posFinite s.x.value = true
  significand : s.step = 8 → 2 ^ 112 ≤ s.sig.value.toNat
  index : 9 ≤ s.step.toNat ∧ s.step.toNat ≤ 49 → s.step ≠ 11 → s.step ≠ 12 → s.k.value.toNat ≤ 90

/-- A state a run from reset reaches, whatever the host does: the host's inputs are those placed at
reset. -/
inductive Reachable : State → Prop where
  | reset (inputs : List HostInput) : Reachable { State.reset with inputs := inputs }
  | step {s t : State} : Reachable s → Machine.step s = .next t → Reachable t

/-- A run is safe at a state when the step there gives a next state: no fault, no refusal. -/
def Safe (s : State) : Prop := ∃ t, step s = .next t

/-- The six operand classes of R81. -/
inductive Path where
  | zero | neg | special | one | near1 | gen
  deriving DecidableEq, Repr

/-- The class of an operand word, read off its request row (R81). -/
def pathOf (x : XF) : Path :=
  match decodeRequest x with
  | .lnZero _ => .zero
  | .lnNeg _ => .neg
  | .lnSpecial _ => .special
  | .lnOne => .one
  | .lnNear1Below _ => .near1
  | .lnNear1Above _ => .near1
  | .lnNear1Top => .near1
  | _ => .gen

/-- The code sequence of each class (R77). -/
def Path.codes : Path → List Nat
  | .zero => [0, 1, 2, 3, 55]
  | .neg => [0, 1, 2, 4, 5, 55]
  | .special => [0, 1, 2, 6, 55]
  | .one => [0, 1, 2, 7, 8, 9, 10, 11, 55]
  | .near1 => [0, 1, 2, 7, 8, 9, 10, 12] ++ List.range' 15 41
  | .gen => [0, 1, 2, 7, 8, 9, 10, 13, 14] ++ List.range' 15 41

/-- How many micro-operation steps follow `IDLE` (R247). -/
def Path.steps : Path → Nat
  | .zero => 3
  | .neg => 4
  | .special => 3
  | .one => 7
  | .near1 => 47
  | .gen => 48

/-- The registers an instruction reads before anything is written: the read-by columns of R24 and R25, with
`rsp_y`'s read of `Y` at `DONE` (R22, R246). A request row reads none: the accepting edge writes `X`. -/
def readsOf : Instr → List Reg
  | .decomp => [.x]
  | .classify => [.sgn, .bexp, .frac]
  | .spcNeg1 => [.x]
  | .spcNeg2 => [.tmp]
  | .spcInfnan => [.x]
  | .norm => [.bexp, .frac]
  | .index => [.sig, .e0]
  | .tbuild => [.tierb, .j, .sig]
  | .band => [.x]
  | .znear => [.x]
  | .zsub => [.u, .t]
  | .zdiv => [.tmp, .t]
  | .sqr => [.z]
  | .pmul14 | .pmul13 | .pmul12 | .pmul11 | .pmul10 | .pmul9 => [.p, .z]
  | .pmul8 | .pmul7 | .pmul6 | .pmul5 | .pmul4 | .pmul3 => [.p, .z]
  | .padd14 | .padd13 | .padd12 | .padd11 | .padd10 | .padd9 => [.p]
  | .padd8 | .padd7 | .padd6 | .padd5 | .padd4 | .padd3 => [.p]
  | .qmul => [.p, .z]
  | .ser => [.p, .w]
  | .hw => [.w]
  | .acc1 | .acc2 | .acc4 | .acc5 | .acc6 => [.y, .tmp]
  | .acc3 => [.y, .z]
  | .ecvt => [.e]
  | .eb | .ea => [.ef]
  | .lut => [.k]
  | .tm1 => [.t]
  | .done => [.y]
  | .idle | .spcZero | .spcOne | .pinit => []
  | .ln _ | .lnZero _ | .lnNeg _ | .lnSpecial _ | .lnOne => []
  | .lnNear1Below _ | .lnNear1Above _ | .lnNear1Top | .lnGen _ => []

/-- The twelve `PMUL.n`, each with its `n` (R213). -/
def pmulRows : List (Nat × Instr) :=
  [(14, .pmul14), (13, .pmul13), (12, .pmul12), (11, .pmul11), (10, .pmul10), (9, .pmul9),
   (8, .pmul8), (7, .pmul7), (6, .pmul6), (5, .pmul5), (4, .pmul4), (3, .pmul3)]

/-- The twelve `PADD.n`, each with its `n` (R214). -/
def paddRows : List (Nat × Instr) :=
  [(14, .padd14), (13, .padd13), (12, .padd12), (11, .padd11), (10, .padd10), (9, .padd9),
   (8, .padd8), (7, .padd7), (6, .padd6), (5, .padd5), (4, .padd4), (3, .padd3)]

/-- The coefficient `COEF[n]` of a block with parameters `p` (R56); `n` from 3 to 15. -/
def Params.l (p : Params) (n : Nat) : XF := (romRead p .coef (n - 3)).getD 0

/-- `P` after `PADD.3`, as nested multiply-adds over the coefficients, high degree first (R210, R242). -/
def hornerValue (p : Params) (z : XF) : XF :=
  [14, 13, 12, 11, 10, 9, 8, 7, 6, 5, 4, 3].foldl
    (fun acc n => (FP.fadd p.defaultNan (FP.fmul p.defaultNan acc z).value (p.l n)).value) (p.l 15)

/-- The result from the residual, the grid point, its table word and the exponent adjustment: the six
accumulations over the series, each operation rounded, bracketed as R242 brackets them. -/
def accumulated (p : Params) (z t lg : XF) (e : BitVec 16) : XF :=
  let mul (a b : XF) : XF := (FP.fmul p.defaultNan a b).value
  let add (a b : XF) : XF := (FP.fadd p.defaultNan a b).value
  let sub (a b : XF) : XF := (FP.fsub p.defaultNan a b).value
  let w := mul z z
  let series := mul (mul (hornerValue p z) z) w
  let ef := FP.i2f e
  add (add (add (add (add (sub series (mul constHalf w)) (mul ef constLn2b)) z) lg) (sub t constOne))
    (mul ef constLn2a)

/-- The state a meaning gives next, if any. -/
def nextOf (r : Result) : Option State :=
  match r with
  | .next t => some t
  | _ => none

end Machine

/-- The real of sign `s` and magnitude `r`. -/
def signed (s : BitVec 1) (r : ℚ) : ℚ := if s = 1 then -r else r

/-- NX when the encoding `v` is not exactly `q`, no flag otherwise (R104). -/
def nxUnless (v : XF) (q : ℚ) : FlagBits := if FP.val v = q then 0 else Flag.nx

/-- A finite encoding none of the finite encodings is nearer to `r` than (R104). -/
def Nearest (v : XF) (r : ℝ) : Prop :=
  v.isFinite = true ∧
    ∀ w : XF, w.isFinite = true → |(FP.val v : ℝ) - r| ≤ |(FP.val w : ℝ) - r|

/-- A row of spec/opcode_table.json: the length of its words, its mask and its match. -/
structure TableRow where
  bits : Nat
  mask : Nat
  pattern : Nat
  deriving DecidableEq, Repr

/-- The row an instruction stands for, copied from spec/opcode_table.json. -/
def Instr.row : Instr → TableRow
  | .ln _ => ⟨128, 0, 0⟩
  | .lnZero _ => ⟨128, 0x7FFFFFFFFFFFFFFFFFFFFFFFFFFFFFFF, 0⟩
  | .lnNeg _ => ⟨128, 0x80000000000000000000000000000000, 0x80000000000000000000000000000000⟩
  | .lnSpecial _ => ⟨128, 0x7FFF0000000000000000000000000000, 0x7FFF0000000000000000000000000000⟩
  | .lnOne => ⟨128, 0xFFFFFFFFFFFFFFFFFFFFFFFFFFFFFFFF, 0x3FFF0000000000000000000000000000⟩
  | .lnNear1Below _ => ⟨128, 0xFFFFFC00000000000000000000000000, 0x3FFEFC00000000000000000000000000⟩
  | .lnNear1Above _ => ⟨128, 0xFFFFFE00000000000000000000000000, 0x3FFF0000000000000000000000000000⟩
  | .lnNear1Top => ⟨128, 0xFFFFFFFFFFFFFFFFFFFFFFFFFFFFFFFF, 0x3FFF0200000000000000000000000000⟩
  | .lnGen _ => ⟨128, 0, 0⟩
  | .idle => ⟨6, 0x3F, 0x00⟩
  | .decomp => ⟨6, 0x3F, 0x01⟩
  | .classify => ⟨6, 0x3F, 0x02⟩
  | .spcZero => ⟨6, 0x3F, 0x03⟩
  | .spcNeg1 => ⟨6, 0x3F, 0x04⟩
  | .spcNeg2 => ⟨6, 0x3F, 0x05⟩
  | .spcInfnan => ⟨6, 0x3F, 0x06⟩
  | .norm => ⟨6, 0x3F, 0x07⟩
  | .index => ⟨6, 0x3F, 0x08⟩
  | .tbuild => ⟨6, 0x3F, 0x09⟩
  | .band => ⟨6, 0x3F, 0x0A⟩
  | .spcOne => ⟨6, 0x3F, 0x0B⟩
  | .znear => ⟨6, 0x3F, 0x0C⟩
  | .zsub => ⟨6, 0x3F, 0x0D⟩
  | .zdiv => ⟨6, 0x3F, 0x0E⟩
  | .sqr => ⟨6, 0x3F, 0x0F⟩
  | .pinit => ⟨6, 0x3F, 0x10⟩
  | .pmul14 => ⟨6, 0x3F, 0x11⟩
  | .padd14 => ⟨6, 0x3F, 0x12⟩
  | .pmul13 => ⟨6, 0x3F, 0x13⟩
  | .padd13 => ⟨6, 0x3F, 0x14⟩
  | .pmul12 => ⟨6, 0x3F, 0x15⟩
  | .padd12 => ⟨6, 0x3F, 0x16⟩
  | .pmul11 => ⟨6, 0x3F, 0x17⟩
  | .padd11 => ⟨6, 0x3F, 0x18⟩
  | .pmul10 => ⟨6, 0x3F, 0x19⟩
  | .padd10 => ⟨6, 0x3F, 0x1A⟩
  | .pmul9 => ⟨6, 0x3F, 0x1B⟩
  | .padd9 => ⟨6, 0x3F, 0x1C⟩
  | .pmul8 => ⟨6, 0x3F, 0x1D⟩
  | .padd8 => ⟨6, 0x3F, 0x1E⟩
  | .pmul7 => ⟨6, 0x3F, 0x1F⟩
  | .padd7 => ⟨6, 0x3F, 0x20⟩
  | .pmul6 => ⟨6, 0x3F, 0x21⟩
  | .padd6 => ⟨6, 0x3F, 0x22⟩
  | .pmul5 => ⟨6, 0x3F, 0x23⟩
  | .padd5 => ⟨6, 0x3F, 0x24⟩
  | .pmul4 => ⟨6, 0x3F, 0x25⟩
  | .padd4 => ⟨6, 0x3F, 0x26⟩
  | .pmul3 => ⟨6, 0x3F, 0x27⟩
  | .padd3 => ⟨6, 0x3F, 0x28⟩
  | .qmul => ⟨6, 0x3F, 0x29⟩
  | .ser => ⟨6, 0x3F, 0x2A⟩
  | .hw => ⟨6, 0x3F, 0x2B⟩
  | .acc1 => ⟨6, 0x3F, 0x2C⟩
  | .ecvt => ⟨6, 0x3F, 0x2D⟩
  | .eb => ⟨6, 0x3F, 0x2E⟩
  | .acc2 => ⟨6, 0x3F, 0x2F⟩
  | .acc3 => ⟨6, 0x3F, 0x30⟩
  | .lut => ⟨6, 0x3F, 0x31⟩
  | .acc4 => ⟨6, 0x3F, 0x32⟩
  | .tm1 => ⟨6, 0x3F, 0x33⟩
  | .acc5 => ⟨6, 0x3F, 0x34⟩
  | .ea => ⟨6, 0x3F, 0x35⟩
  | .acc6 => ⟨6, 0x3F, 0x36⟩
  | .done => ⟨6, 0x3F, 0x37⟩

/-- An instruction's word as a number, bit 0 its least significant bit. -/
def CodeWord.toNat : CodeWord → Nat
  | .req x => x.toNat
  | .uop c => c.toNat

/-- The length of a word in bits. -/
def CodeWord.bits : CodeWord → Nat
  | .req _ => 128
  | .uop _ => 6

end Sys2Proof
end

