-- ==== Sys2Proof/Certificates/Slice0/Obligations.lean ====
section
/-! DEFINITION. The statements for the provers. Nothing is proved here. -/

open Sys2Proof Sys2Proof.Machine

/-! Decoding and encoding -/

/-- Decode of encode is the instruction, for every well-formed row but the mask-0 row `LN` (whose words the
class rows refine, R81), with every operand (30_encoding.md, formats REQ and UOP). -/
def Obligations.DecodeInvertsEncode : Prop :=
  ∀ i : Instr, i.wellFormed = true → (∀ x, i ≠ .ln x) → decode (encode i) = .ok i

/-- Every word that decodes at all is the word of the row it decodes to, and the row's operand is
well-formed: no bit of a word is dropped. -/
def Obligations.EncodeInvertsDecode : Prop :=
  ∀ (w : CodeWord) (i : Instr), decode w = .ok i → i.wellFormed = true ∧ encode i = w

/-- The six operand classes told by value: the word patterns of the opcode table select exactly the
operands whose value lies in the class. -/
def Obligations.OperandClassesByValue : Prop :=
  ∀ x : XF,
    (pathOf x = .zero ↔ x.isZero = true) ∧
    (pathOf x = .neg ↔ x.isZero = false ∧ x.sign = 1) ∧
    (pathOf x = .special ↔ x.sign = 0 ∧ x.isFinite = false) ∧
    (pathOf x = .one ↔ x.isFinite = true ∧ FP.val x = 1) ∧
    (pathOf x = .near1 ↔
      x.isFinite = true ∧ 127 / 128 ≤ FP.val x ∧ FP.val x ≤ 129 / 128 ∧ FP.val x ≠ 1) ∧
    (pathOf x = .gen ↔
      x.isFinite = true ∧ 0 < FP.val x ∧ ¬ (127 / 128 ≤ FP.val x ∧ FP.val x ≤ 129 / 128))

/-- A few words decode as the opcode table says. -/
def Obligations.TableWordsDecode : Prop :=
  decode (.uop 0b000000) = .ok .idle ∧ decode (.uop 0b000010) = .ok .classify ∧
  decode (.uop 0b001010) = .ok .band ∧ decode (.uop 0b010001) = .ok .pmul14 ∧
  decode (.uop 0b101000) = .ok .padd3 ∧ decode (.uop 0b110001) = .ok .lut ∧
  decode (.uop 0b110111) = .ok .done ∧ decode (.uop 0b111000) = .error (.reservedCode 56) ∧
  decode (.req 0x80000000000000000000000000000000) = .ok (.lnZero 1) ∧
  decode (.req 0xFFFF0000000000000000000000001234) = .ok (.lnNeg 0x7FFF0000000000000000000000001234) ∧
  decode (.req 0x7FFF0000000000000000000000001234) = .ok (.lnSpecial 0x1234) ∧
  decode (.req 0x3FFF0000000000000000000000000000) = .ok .lnOne ∧
  decode (.req 0x3FFEFC00000000000000000000000005) = .ok (.lnNear1Below 5) ∧
  decode (.req 0x3FFF0000000000000000000000000001) = .ok (.lnNear1Above 1) ∧
  decode (.req 0x3FFF0200000000000000000000000000) = .ok .lnNear1Top ∧
  decode (.req 0x3FFF0200000000000000000000000001) = .ok (.lnGen 0x3FFF0200000000000000000000000001)

/-- The reserved codes 56 to 63 decode to no instruction and have no step. -/
def Obligations.ReservedCodesHaveNoStep : Prop :=
  ∀ s : State, 56 ≤ s.step.toNat → s.pins.rst = false →
    decode (.uop s.step) = .error (.reservedCode s.step) ∧ step s = .refused (.reservedStep s.step)

/-! The step -/

/-- A step runs the decoded instruction: the class row of the request word when a host line is offered to
the idle block, the micro-operation of `STEP` otherwise; beside it the host's inputs move on (an edge is
used up, a line is used up only where it was accepted) and the count of steps grows by one. The host's
inputs, the line as one step and the count are the model's own (logs 4, 5 and 7). -/
def Obligations.StepRunsTheDecodedInstruction : Prop :=
  ∀ (s : State) (i : Instr), s.pins.rst = false →
    ((∃ x, s.now = .line x ∧ s.step = 0 ∧ decode (.req x) = .ok i) ∨
      ((∀ x, s.now = .line x → s.step ≠ 0) ∧ decode (.uop s.step) = .ok i)) →
    (∀ t, exec i s = .next t →
      step s = .next { t with
        inputs := match s.now with
          | .edge _ => s.inputs.tail
          | .line _ => if s.step = 0 then s.inputs.tail else s.inputs
        edges := s.edges + 1 }) ∧
    (∀ f, exec i s = .fault f → step s = .fault f) ∧
    (∀ q, exec i s = .refused q → step s = .refused q)

/-- An edge with `rst = 1`, whatever `STEP` and the registers are: the block is idle, `FACC` is clear, no
register holds a value, the parameters stay; and without a new request it stays idle at the next edge, so
an operation in flight never answers. The list of the host's inputs is the model's own (log 5). -/
def Obligations.ResetEdgeAbandonsEverything : Prop :=
  ∀ s : State, s.pins.rst = true →
    ∃ t, step s = .next t ∧ t.step = 0 ∧ t.facc = 0 ∧ (∀ r, t.holdsReg r = false) ∧
      t.reqReady = true ∧ t.rspValid = false ∧ t.params = s.params ∧
      t.inputs = s.inputs.tail ∧
      (t.pins.reqValid = false → ∃ u, step t = .next u ∧ u.step = 0 ∧ u.rspValid = false)

/-- The state after reset: idle, flags clear, no register holds a value, the parameters as the spec
constrains them. Of the contents the model chose (log 2) nothing is said. -/
def Obligations.ResetStateIsIdleAndEmpty : Prop :=
  State.reset.step = 0 ∧ State.reset.facc = 0 ∧ (∀ r, State.reset.holdsReg r = false) ∧
    State.reset.reqReady = true ∧ State.reset.rspValid = false ∧ State.reset.params.Allowed

/-- The OPEN parameters are exactly what the spec allows: every word is brought to an allowed coefficient
and every allowed coefficient stays as it is; likewise for `DEFAULT_NAN`; and `LAT` is at least 1. The form
of the parameters is the model's (log 1). -/
def Obligations.OpenParametersAreExactlyTheAllowed : Prop :=
  (∀ n, 3 ≤ n → n ≤ 15 → ∀ raw : XF,
    coefAllowed n (Config.admitCoef n raw) ∧ (coefAllowed n raw → Config.admitCoef n raw = raw)) ∧
  (∀ raw : XF, (Config.admitNan raw).isQuietNaN = true ∧
    (raw.isQuietNaN = true → Config.admitNan raw = raw)) ∧
  1 ≤ Config.lat

/-! Invariants -/

/-- The state invariant holds right after reset, whatever inputs the host has placed. -/
def Obligations.ResetIsSound : Prop :=
  ∀ inputs : List HostInput, State.Inv { State.reset with inputs := inputs }

/-- From every state that meets the invariant a step gives a next state, no fault and no refusal, and the
next state meets the invariant. -/
def Obligations.EverySoundStateStepsToASoundState : Prop :=
  ∀ s : State, s.Inv → ∃ t, step s = .next t ∧ t.Inv

/-- A register that holds no value must not be read: an instruction that reads one faults and names one
it reads; an instruction whose registers all hold values never faults; and no state a run from reset
reaches faults at all, whatever the host does. That `DONE` reads `Y`
is read off R22, R25 and R246 (log 9). -/
def Obligations.UnheldReadsFaultAndNeverHappen : Prop :=
  (∀ (i : Instr) (s : State) (r : Reg), r ∈ readsOf i → s.holdsReg r = false →
    ∃ q ∈ readsOf i, s.holdsReg q = false ∧ exec i s = .fault (.noValue q)) ∧
  (∀ (i : Instr) (s : State), (∀ r ∈ readsOf i, s.holdsReg r = true) → ∀ f, exec i s ≠ .fault f) ∧
  (∀ s : State, Reachable s → Safe s)

/-- No step changes the build-time parameters, the `COEF` ROM among them. -/
def Obligations.ParametersNeverChange : Prop :=
  ∀ s t : State, step s = .next t → t.params = s.params

/-! The floating-point primitives -/

/-- `round(s, r)`: below the overflow bound the result has sign `s`, is nearest to the signed magnitude
among all finite encodings, and on a tie has an even fraction; at or above it the result is the infinity.
NX when inexact, UF also when tiny after rounding, OF and NX on overflow; `RN(q)` is the same without the
flags, `RN(0) = +0`. -/
def Obligations.RoundGivesTheNearestEncoding : Prop :=
  (∀ (s : BitVec 1) (r : ℚ), 0 < r →
    (r < 2 ^ (16384 : ℤ) - 2 ^ (16270 : ℤ) →
      (FP.round s r).value.sign = s ∧
      Nearest (FP.round s r).value ((signed s r : ℚ) : ℝ) ∧
      (∀ w : XF, w.isFinite = true → w.sign = s → w ≠ (FP.round s r).value →
        |FP.val w - signed s r| = |FP.val (FP.round s r).value - signed s r| →
        (FP.round s r).value.frac.toNat % 2 = 0) ∧
      (FP.round s r).flags =
        if FP.val (FP.round s r).value = signed s r then 0
        else if r < 2 ^ (-16382 : ℤ) - 2 ^ (-16496 : ℤ) then 0b00011 else 0b00001) ∧
    (2 ^ (16384 : ℤ) - 2 ^ (16270 : ℤ) ≤ r → FP.round s r = ⟨XF.inf s, 0b00101⟩)) ∧
  (∀ q : ℚ, q ≠ 0 → FP.rn q = (FP.round (if q < 0 then 1 else 0) |q|).value) ∧ FP.rn 0 = 0

/-- A value the format has is not changed by rounding, and no flag is raised. -/
def Obligations.RoundingARepresentableValueIsExact : Prop :=
  ∀ v : XF, v.isFinite = true → v.isZero = false → FP.round v.sign |FP.val v| = ⟨v, 0⟩

/-- `fle` orders every pair of non-NaN encodings as their values, the zeros equal and the infinities at
the ends, has no answer for a NaN, and on positive finite operands is the unsigned integer comparison. -/
def Obligations.FleOrdersByValue : Prop :=
  ∀ a b : XF,
    (a.isFinite = true → b.isFinite = true → FP.fle a b = some (decide (FP.val a ≤ FP.val b))) ∧
    (a.isInf = true → a.sign = 1 → b.isNaN = false → FP.fle a b = some true) ∧
    (b.isInf = true → b.sign = 0 → a.isNaN = false → FP.fle a b = some true) ∧
    (a.isInf = true → a.sign = 0 → b.isFinite = true → FP.fle a b = some false) ∧
    (b.isInf = true → b.sign = 1 → a.isFinite = true → FP.fle a b = some false) ∧
    (a.isInf = true → b.isInf = true → a.sign = 0 → b.sign = 1 → FP.fle a b = some false) ∧
    (a.isNaN = true ∨ b.isNaN = true → FP.fle a b = none) ∧
    (posFinite a = true → posFinite b = true →
      FP.fle a b = some (decide (a.mag.toNat ≤ b.mag.toNat)))

/-- `nanprop`: whichever two-operand primitive meets a NaN returns the first NaN operand, quiet bit set,
sign and payload unchanged, with NV exactly when an operand is a signalling NaN. -/
def Obligations.NanOperandsPropagate : Prop :=
  ∀ (dn a b : XF) (op : XF → XF → FP.Result), op ∈ [FP.fadd dn, FP.fsub dn, FP.fmul dn, FP.fdiv dn] →
    a.isNaN = true ∨ b.isNaN = true →
    (op a b).value.isQuietNaN = true ∧
    (op a b).value.sign = (if a.isNaN then a else b).sign ∧
    (op a b).value.extractLsb' 0 111 = (if a.isNaN then a else b).extractLsb' 0 111 ∧
    (op a b).flags = if a.isSignallingNaN ∨ b.isSignallingNaN then 0b10000 else 0

/-- `fsub`: `nanprop` on a NaN, else `fadd` with bit 127 of `b` inverted; and `x - x` for each kind of
`x`. -/
def Obligations.SubtractingAnOperandFromItself : Prop :=
  (∀ dn a b : XF, (a.isNaN = true ∨ b.isNaN = true → FP.fsub dn a b = FP.nanprop a b) ∧
    (a.isNaN = false → b.isNaN = false →
      FP.fsub dn a b = FP.fadd dn a (XF.pack (b.sign ^^^ 1) b.bexp b.frac))) ∧
  (∀ dn x : XF, (x.isFinite = true → FP.fsub dn x x = ⟨0, 0⟩) ∧
    (x.isInf = true → FP.fsub dn x x = ⟨dn, 0b10000⟩) ∧
    (x.isQuietNaN = true → FP.fsub dn x x = ⟨x, 0⟩) ∧
    (x.isSignallingNaN = true → FP.fsub dn x x = ⟨x ||| (1 <<< 111), 0b10000⟩))

/-- `fadd` is commutative in value and flags when neither operand is a NaN, and adding +0 to a finite
encoding other than -0 changes nothing and raises nothing. -/
def Obligations.AddCommutesAndZeroIsNeutral : Prop :=
  (∀ dn a b : XF, a.isNaN = false → b.isNaN = false → FP.fadd dn a b = FP.fadd dn b a) ∧
  (∀ dn a : XF, a.isFinite = true → a ≠ XF.zero 1 → FP.fadd dn a 0 = ⟨a, 0⟩)

/-- `i2f` is exact on every 16-bit integer. -/
def Obligations.IntegerConversionIsExact : Prop :=
  ∀ n : BitVec 16, (FP.i2f n).isFinite = true ∧ FP.val (FP.i2f n) = n.toInt ∧ (n = 0 → FP.i2f n = 0) ∧
    (n ≠ 0 → FP.round (if n.toInt < 0 then 1 else 0) (n.toInt.natAbs : ℚ) = ⟨FP.i2f n, 0⟩)

/-! bit_decomposer -/

/-- `DECOMP` splits `X` into its fields, raises nothing whatever `X` is, the fields are those of the word
view, and `pack` puts them back. -/
def Obligations.DecompSplitsTheOperand : Prop :=
  ∀ (s : State) (x : XF), s.x = .holding x →
    exec .decomp s = .next { s with
      sgn := .holding x.sign, bexp := .holding x.bexp, frac := .holding x.frac, step := 2 } ∧
    XF.pack x.sign x.bexp x.frac = x ∧
    x.toNat = x.sign.toNat * 2 ^ 127 + x.bexp.toNat * 2 ^ 112 + x.frac.toNat ∧
    x.w0.toNat = x.sign.toNat * 2 ^ 31 + x.bexp.toNat * 2 ^ 16 + x.frac.toNat / 2 ^ 96 ∧
    x.frac = x.w0.extractLsb' 0 16 ++ x.w1 ++ x.w2 ++ x.w3

/-- `NORM` on a positive finite non-zero operand: the fields of a normal operand, the shifted fraction of a
subnormal one by its count `lz` of leading zeros; a significand with bit 112 set and the exponent with
which it is exactly the operand's value; nothing else changes. -/
def Obligations.NormGivesTheNormalisedSignificand : Prop :=
  ∀ (s : State) (x : XF), posFinite x = true → s.bexp = .holding x.bexp → s.frac = .holding x.frac →
    ∃ (e0 : BitVec 16) (sig : BitVec 113),
      exec .norm s = .next { s with e0 := .holding e0, sig := .holding sig, step := 8 } ∧
      (x.bexp ≠ 0 → e0.toInt = (x.bexp.toNat : ℤ) - 16383 ∧ sig.toNat = 2 ^ 112 + x.frac.toNat) ∧
      (x.bexp = 0 → ∃ lz : ℕ, lz ≤ 111 ∧
        2 ^ (111 - lz) ≤ x.frac.toNat ∧ x.frac.toNat < 2 ^ (112 - lz) ∧
        sig.toNat = x.frac.toNat * 2 ^ (lz + 1) ∧ e0.toInt = -16382 - ((lz : ℤ) + 1)) ∧
      2 ^ 112 ≤ sig.toNat ∧ FP.val x = 2 ^ e0.toInt * ((sig.toNat : ℚ) / 2 ^ 112) ∧
      -16494 ≤ e0.toInt ∧ e0.toInt ≤ 16383

/-! special_case_classifier -/

/-- `CLASSIFY`: zero first, then the sign, then the all-ones exponent; the same tests on the words of the
operand; no flag, nothing else changes. -/
def Obligations.ClassifyTestsInOrder : Prop :=
  ∀ (s : State) (x : XF), s.sgn = .holding x.sign → s.bexp = .holding x.bexp →
    s.frac = .holding x.frac →
    exec .classify s = .next (
      if x.isZero then { s with cls := .holding .zero, step := 3 }
      else if x.sign = 1 then { s with cls := .holding .neg, step := 4 }
      else if x.isFinite = false then { s with cls := .holding .special, step := 6 }
      else { s with cls := .holding .posfin, step := 7 }) ∧
    (x.isZero = true ↔ x.k0 ||| x.w1 ||| x.w2 ||| x.w3 = 0) ∧
    (x.sign = 1 ↔ x.w0.getLsbD 31 = true) ∧
    (x.isFinite = false ↔ 0x7FFF0000 ≤ x.k0.toNat)

/-- `SPC.ZERO`: minus infinity with DZ, by the division `-0.5 / 0.0`. -/
def Obligations.SpcZeroGivesMinusInfinity : Prop :=
  ∀ s : State, exec .spcZero s = .next { s with
      y := .holding 0xFFFF0000000000000000000000000000, facc := s.facc ||| 0b01000, step := 55 } ∧
    FP.fdiv s.params.defaultNan constMhalf constZero = ⟨0xFFFF0000000000000000000000000000, 0b01000⟩

/-- `SPC.NEG1` and `SPC.NEG2`: `(x - x) / 0.0` for each kind of `X`, and of what `SPC.NEG1` leaves in
`TMP`. -/
def Obligations.NegativeOperandSteps : Prop :=
  (∀ (s : State) (x : XF), s.x = .holding x →
    exec .spcNeg1 s = .next (
      if x.isFinite then { s with tmp := .holding 0, step := 5 }
      else if x.isInf then
        { s with tmp := .holding s.params.defaultNan, facc := s.facc ||| 0b10000, step := 5 }
      else if x.isQuietNaN then { s with tmp := .holding x, step := 5 }
      else { s with tmp := .holding (x ||| (1 <<< 111)), facc := s.facc ||| 0b10000, step := 5 })) ∧
  (∀ s : State, s.tmp = .holding 0 →
    exec .spcNeg2 s = .next { s with
      y := .holding s.params.defaultNan, facc := s.facc ||| 0b10000, step := 55 }) ∧
  (∀ (s : State) (v : XF), s.tmp = .holding v → v.isQuietNaN = true →
    exec .spcNeg2 s = .next { s with y := .holding v, step := 55 })

/-- `SPC.INFNAN`: `x + x` on an infinity, a quiet NaN and a signalling NaN. -/
def Obligations.InfinityAndNanSteps : Prop :=
  ∀ (s : State) (x : XF), s.x = .holding x → x.isFinite = false →
    exec .spcInfnan s = .next (
      if x.isSignallingNaN then
        { s with y := .holding (x ||| (1 <<< 111)), facc := s.facc ||| 0b10000, step := 55 }
      else { s with y := .holding x, step := 55 })

/-! range_reducer_with_lut -/

/-- `INDEX` on a normalised significand, in plain integers: `M17`, the tier, `J`, `K` and `E`. -/
def Obligations.IndexChoosesTierAndGridPoint : Prop :=
  ∀ (s : State) (sig : BitVec 113) (e0 : BitVec 16), s.sig = .holding sig → s.e0 = .holding e0 →
    2 ^ 112 ≤ sig.toNat → e0.toInt ≤ 16383 →
    ∃ (m17 : BitVec 17) (j k : BitVec 7) (e : BitVec 16),
      exec .index s = .next { s with
        m17 := .holding m17, tierb := .holding (decide (0x16800 ≤ m17.toNat)), j := .holding j
        k := .holding k, e := .holding e, step := 9 } ∧
      m17.toNat = sig.toNat / 2 ^ 96 ∧
      (m17.toNat < 0x16800 → j.toNat = (m17.toNat - 0xFF00) / 2 ^ 9 ∧ j.toNat ≤ 52 ∧
        k.toNat = j.toNat + 38 ∧ e = e0) ∧
      (0x16800 ≤ m17.toNat → j.toNat = (m17.toNat - 0xFE00) / 2 ^ 10 ∧ 26 ≤ j.toNat ∧ j.toNat ≤ 64 ∧
        k.toNat = j.toNat - 26 ∧ e.toInt = e0.toInt + 1)

/-- `TBUILD` assembles the grid point and the realigned significand as bit patterns: the top word of `T`
as a plain sum, its other words zero, and `U` of exponent field `0x3FFF` or `0x3FFE`. -/
def Obligations.TbuildAssemblesBitPatterns : Prop :=
  ∀ (s : State) (b : Bool) (j : BitVec 7) (sig : BitVec 113), s.tierb = .holding b →
    s.j = .holding j → s.sig = .holding sig →
    ∃ t u : XF,
      exec .tbuild s = .next { s with t := .holding t, u := .holding u, step := 10 } ∧
      t.toNat = (if b then 0x3FFE0000 + 2 ^ 10 * j.toNat else 0x3FFF0000 + 2 ^ 9 * j.toNat) * 2 ^ 96 ∧
      u.toNat = (if b then 0x3FFE else 0x3FFF) * 2 ^ 112 + sig.toNat % 2 ^ 112

/-- `NORM`, `INDEX`, `TBUILD` in order rebuild the operand: `val(X) = 2^E * u` exactly, `u` in
`[0.703125, 1.40625)`, `T` the grid point of index `K`, within 1/256 of `u`, and `K`, `E` in range. -/
def Obligations.ReductionReconstructsTheOperand : Prop :=
  ∀ (s : State) (x : XF), posFinite x = true → s.bexp = .holding x.bexp → s.frac = .holding x.frac →
    ∃ (t : State) (u g : XF) (k : BitVec 7) (e : BitVec 16),
      runList [execNorm, execIndex, execTbuild] s = .next t ∧ t.step = 10 ∧ t.facc = s.facc ∧
      t.x = s.x ∧ t.u = .holding u ∧ t.t = .holding g ∧ t.k = .holding k ∧ t.e = .holding e ∧
      FP.val x = 2 ^ e.toInt * FP.val u ∧
      703125 / 1000000 ≤ FP.val u ∧ FP.val u < 140625 / 100000 ∧
      FP.val g = ((k.toNat : ℚ) + 90) / 128 ∧ k.toNat ≤ 90 ∧
      -1 / 256 ≤ FP.val u - FP.val g ∧ FP.val u - FP.val g < 1 / 256 ∧
      -16494 ≤ e.toInt ∧ e.toInt ≤ 16384

/-- `BAND` on the original operand: 1.0 exactly first, then the closed band, then the general path; no
flag. An infinity, which no run brings here, lies outside the band; a NaN, for which `fle` is not defined
(R113, U12), is refused (log 10). -/
def Obligations.BandTestsTheOriginalOperand : Prop :=
  ∀ (s : State) (x : XF), s.x = .holding x →
    (x.isFinite = true →
      exec .band s = .next { s with
        near1 := .holding (decide (127 / 128 ≤ FP.val x ∧ FP.val x ≤ 129 / 128))
        isone := .holding (decide (FP.val x = 1))
        step := if FP.val x = 1 then 11
          else if 127 / 128 ≤ FP.val x ∧ FP.val x ≤ 129 / 128 then 12 else 13 }) ∧
    (x.isInf = true →
      exec .band s = .next { s with near1 := .holding false, isone := .holding false, step := 13 }) ∧
    (x.isNaN = true → exec .band s = .refused .fleOfNan)

/-- `ZNEAR` in the band: `Z` is exactly `val(X) - 1`, no flag, and `K`, `T`, `E` are the anchor's. -/
def Obligations.ZnearIsExact : Prop :=
  ∀ (s : State) (x : XF), s.x = .holding x → x.isFinite = true → 127 / 128 ≤ FP.val x →
    FP.val x ≤ 129 / 128 →
    ∃ z : XF,
      exec .znear s = .next { s with
        z := .holding z, k := .holding 38, t := .holding 0x3FFF0000000000000000000000000000
        e := .holding 0, step := 15 } ∧
      z.isFinite = true ∧ FP.val z = FP.val x - 1 ∧
      (FP.val x ≠ 1 → 2 ^ (-113 : ℤ) ≤ |FP.val z|) ∧ |FP.val z| ≤ 2 ^ (-7 : ℤ)

/-- `ZSUB` on a significand and a grid point within 1/256 of it: exact, no flag, +0 when they are
equal. -/
def Obligations.ZsubIsExact : Prop :=
  ∀ (s : State) (u t : XF) (k : ℕ), s.u = .holding u → s.t = .holding t → k ≤ 90 →
    u.isFinite = true → t.isFinite = true → FP.val t = ((k : ℚ) + 90) / 128 →
    703125 / 1000000 ≤ FP.val u → FP.val u < 140625 / 100000 →
    -1 / 256 ≤ FP.val u - FP.val t → FP.val u - FP.val t < 1 / 256 →
    ∃ v : XF, exec .zsub s = .next { s with tmp := .holding v, step := 14 } ∧
      v.isFinite = true ∧ FP.val v = FP.val u - FP.val t ∧ (FP.val u = FP.val t → v = 0)

/-- `ZDIV` by a grid point: one rounding of the quotient, NX exactly when it is inexact, +0 from +0. -/
def Obligations.ZdivRoundsTheQuotient : Prop :=
  ∀ (s : State) (d t : XF) (k : ℕ), s.tmp = .holding d → s.t = .holding t → k ≤ 90 →
    d.isFinite = true → t.isFinite = true → FP.val t = ((k : ℚ) + 90) / 128 →
    (d = 0 ∨ 2 ^ (-113 : ℤ) ≤ |FP.val d|) → |FP.val d| ≤ 1 / 256 →
    ∃ z : XF,
      exec .zdiv s = .next { s with
        z := .holding z, facc := s.facc ||| nxUnless z (FP.val d / FP.val t), step := 15 } ∧
      Nearest z ((FP.val d / FP.val t : ℚ) : ℝ) ∧ (d = 0 → z = 0) ∧
      (d ≠ 0 → 2 ^ (-114 : ℤ) ≤ |FP.val z|) ∧ |FP.val z| ≤ 2 ^ (-7 : ℤ)

/-- `LUT` copies the table word of index `K`, no flag; the anchor gives +0; an index the table does not
have is refused. -/
def Obligations.LutReadsTheTable : Prop :=
  ∀ (s : State) (k : BitVec 7), s.k = .holding k →
    (∀ v, logtblRom[k.toNat]? = some v →
      exec .lut s = .next { s with tmp := .holding v, step := 50 }) ∧
    (k.toNat ≤ 91 → ∃ v, logtblRom[k.toNat]? = some v) ∧
    (k = 38 → exec .lut s = .next { s with tmp := .holding 0, step := 50 }) ∧
    (92 ≤ k.toNat → exec .lut s = .refused (.romIndex .logtbl k.toNat))

/-- The table against the real logarithm: every word but the anchor's is the encoding nearest to
`ln t_k - (t_k - 1)`, negative and below 0.068 in magnitude; the anchor is +0. -/
def Obligations.LogTableIsTheRoundedFormula : Prop :=
  ∀ (p : Params) (k : ℕ), k < 92 → ∃ v, romRead p .logtbl k = some v ∧ (k = 38 → v = 0) ∧
    (k ≠ 38 →
      Nearest v (Real.log (((k : ℝ) + 90) / 128) - (((k : ℝ) + 90) / 128 - 1)) ∧
      FP.val v < 0 ∧ |FP.val v| < 68 / 1000)

/-- The split constant against the real logarithm: `LN2A` is `45426 * 2^-16`, `LN2B` is nearest to the
rest of ln 2, their sum is ln 2 to within `2^-132`, and `LN2A` times any exponent adjustment is exact. -/
def Obligations.SplitConstantSumsToLn2 : Prop :=
  FP.val constLn2a = 45426 / 2 ^ 16 ∧
  Nearest constLn2b (Real.log 2 - 45426 / 2 ^ 16) ∧
  |((FP.val constLn2a + FP.val constLn2b : ℚ) : ℝ) - Real.log 2| < 2 ^ (-132 : ℤ) ∧
  (∀ (dn : XF) (e : BitVec 16), -16494 ≤ e.toInt → e.toInt ≤ 16494 →
    (FP.fmul dn (FP.i2f e) constLn2a).flags = 0 ∧
    (FP.fmul dn (FP.i2f e) constLn2a).value.isFinite = true ∧
    FP.val (FP.fmul dn (FP.i2f e) constLn2a).value = e.toInt * FP.val constLn2a)

/-- The eight words of `CONST` at their indices, the values of the first six, and the ranges of the three
spaces: a read outside them is refused (R52, U4, log 11). -/
def Obligations.ConstantsAndRomRanges : Prop :=
  ∀ (s : State) (k : XF → Result),
    readRom s .const 0 k = k 0x00000000000000000000000000000000 ∧
    readRom s .const 1 k = k 0xBFFE0000000000000000000000000000 ∧
    readRom s .const 2 k = k 0x3FFE0000000000000000000000000000 ∧
    readRom s .const 3 k = k 0x3FFF0000000000000000000000000000 ∧
    readRom s .const 4 k = k 0x3FFEFC00000000000000000000000000 ∧
    readRom s .const 5 k = k 0x3FFF0200000000000000000000000000 ∧
    readRom s .const 6 k = k 0x3FFE62E4000000000000000000000000 ∧
    readRom s .const 7 k = k 0x3FEB7F7D1CF79ABC9E3B39803F2F6AF4 ∧
    FP.val constZero = 0 ∧ FP.val constMhalf = -1 / 2 ∧ FP.val constHalf = 1 / 2 ∧
    FP.val constOne = 1 ∧ FP.val constBandLo = 127 / 128 ∧ FP.val constBandHi = 129 / 128 ∧
    ∀ i : ℕ, (92 ≤ i → readRom s .logtbl i k = .refused (.romIndex .logtbl i)) ∧
      (13 ≤ i → readRom s .coef i k = .refused (.romIndex .coef i)) ∧
      (8 ≤ i → readRom s .const i k = .refused (.romIndex .const i)) ∧
      (i < 92 → ∃ v, readRom s .logtbl i k = k v) ∧
      (∀ h : i < 13, readRom s .coef i k = k s.params.coef[i])

/-! poly_evaluator_degree15 -/

/-- `SQR` on a residual: one rounding of the square, NX exactly when it is inexact, never negative. -/
def Obligations.SqrRoundsTheSquare : Prop :=
  ∀ (s : State) (z : XF), s.z = .holding z → z.isFinite = true → |FP.val z| ≤ 2 ^ (-7 : ℤ) →
    (FP.val z = 0 ∨ 2 ^ (-114 : ℤ) ≤ |FP.val z|) →
    ∃ w : XF,
      exec .sqr s = .next { s with
        w := .holding w, facc := s.facc ||| nxUnless w (FP.val z * FP.val z), step := 16 } ∧
      Nearest w ((FP.val z * FP.val z : ℚ) : ℝ) ∧ w.sign = 0

/-- The two writes that apply no primitive: `PINIT` copies `COEF[15]` into `P`, `SPC.ONE` writes +0 into
`Y`; no flag, nothing else. -/
def Obligations.PlainCopies : Prop :=
  ∀ s : State, exec .pinit s = .next { s with p := .holding (s.params.l 15), step := 17 } ∧
    exec .spcOne s = .next { s with y := .holding 0, step := 55 }

/-- Each of the twelve `PMUL.n`: the old `P` times `Z` into `P`, the code counted up by one; within the
bounds of the Horner loop one rounding, NX exactly when it is inexact and no other flag. -/
def Obligations.HornerMultiply : Prop :=
  ∀ n i, (n, i) ∈ pmulRows → ∀ (s : State) (p z : XF), s.p = .holding p → s.z = .holding z →
    exec i s = .next { s with
      p := .holding (FP.fmul s.params.defaultNan p z).value
      facc := s.facc ||| (FP.fmul s.params.defaultNan p z).flags, step := s.step + 1 } ∧
    (p.isFinite = true → z.isFinite = true → 1 / 32 ≤ |FP.val p| → |FP.val p| ≤ 51 / 100 →
      (FP.val z = 0 ∨ 2 ^ (-114 : ℤ) ≤ |FP.val z|) → |FP.val z| ≤ 2 ^ (-7 : ℤ) →
      (FP.fmul s.params.defaultNan p z).flags =
        nxUnless (FP.fmul s.params.defaultNan p z).value (FP.val p * FP.val z) ∧
      Nearest (FP.fmul s.params.defaultNan p z).value ((FP.val p * FP.val z : ℚ) : ℝ) ∧
      (FP.fmul s.params.defaultNan p z).value.sign = p.sign ^^^ z.sign ∧
      (FP.val z ≠ 0 → 2 ^ (-119 : ℤ) ≤ |FP.val (FP.fmul s.params.defaultNan p z).value|) ∧
      |FP.val (FP.fmul s.params.defaultNan p z).value| ≤ 2 ^ (-7 : ℤ))

/-- Each of the twelve `PADD.n`: `P` plus `COEF[n]` into `P`, the code counted up by one; within the
bounds of the Horner loop one rounding, NX exactly when it is inexact and no other flag. -/
def Obligations.HornerAdd : Prop :=
  ∀ n i, (n, i) ∈ paddRows → ∀ (s : State) (p : XF), s.p = .holding p →
    exec i s = .next { s with
      p := .holding (FP.fadd s.params.defaultNan p (s.params.l n)).value
      facc := s.facc ||| (FP.fadd s.params.defaultNan p (s.params.l n)).flags, step := s.step + 1 } ∧
    (s.params.Allowed → p.isFinite = true → |FP.val p| ≤ 51 / 12800 →
      (FP.fadd s.params.defaultNan p (s.params.l n)).flags =
        nxUnless (FP.fadd s.params.defaultNan p (s.params.l n)).value
          (FP.val p + FP.val (s.params.l n)) ∧
      Nearest (FP.fadd s.params.defaultNan p (s.params.l n)).value
        ((FP.val p + FP.val (s.params.l n) : ℚ) : ℝ) ∧
      (FP.fadd s.params.defaultNan p (s.params.l n)).value.sign = (s.params.l n).sign ∧
      FP.val (FP.fadd s.params.defaultNan p (s.params.l n)).value ≠ 0 ∧
      (FP.val p = 0 → FP.fadd s.params.defaultNan p (s.params.l n) = ⟨s.params.l n, 0⟩))

/-- The Horner loop keeps its bounds, for every allowed `COEF` and every residual of magnitude at most
`2^-7`: after `PINIT` and after each `PADD.n`, `1/32 < |P| < 0.51`, positive for odd `n`, negative for
even `n`. -/
def Obligations.HornerLoopKeepsItsBounds : Prop :=
  ∀ (s : State) (z : XF), s.params.Allowed → s.z = .holding z → z.isFinite = true →
    |FP.val z| ≤ 2 ^ (-7 : ℤ) → (FP.val z = 0 ∨ 2 ^ (-114 : ℤ) ≤ |FP.val z|) →
    ∀ n : ℕ, 3 ≤ n → n ≤ 15 →
      ∃ (t : State) (p : XF),
        runList ((seriesAndAccumulate.drop 1).take (2 * (15 - n) + 1)) s = .next t ∧
        t.p = .holding p ∧ p.isFinite = true ∧ 1 / 32 < |FP.val p| ∧ |FP.val p| < 51 / 100 ∧
        (n % 2 = 1 → 0 < FP.val p) ∧ (n % 2 = 0 → FP.val p < 0)

/-- A zero residual gives a zero series with no flag, whatever the coefficients: codes 15 to 42 leave
`Y` = +0, the flags as they were and `Z` as it was. -/
def Obligations.ZeroResidualGivesZeroSeries : Prop :=
  ∀ s : State, s.params.Allowed → s.z = .holding 0 →
    ∃ t : State, runList (seriesAndAccumulate.take 28) s = .next t ∧ t.y = .holding 0 ∧
      t.w = .holding 0 ∧ t.facc = s.facc ∧ t.z = s.z ∧ t.step = 43

/-! precision_accumulator -/

/-- `HW` is exact and raises nothing: `TMP` is `W` with its biased exponent one less, or +0. -/
def Obligations.HwHalvesExactly : Prop :=
  ∀ (s : State) (w : XF), s.w = .holding w →
    (w = 0 ∨ (w.sign = 0 ∧ w.isFinite = true ∧ 2 ^ (-230 : ℤ) ≤ FP.val w)) →
    exec .hw s = .next { s with
      tmp := .holding (if w = 0 then 0 else XF.pack 0 (w.bexp - 1) w.frac), step := 44 } ∧
    FP.val (if w = 0 then 0 else XF.pack 0 (w.bexp - 1) w.frac) = FP.val w / 2

/-- The six accumulations: one rounded subtraction and five rounded additions into `Y`, in the order of
the accumulation listing, each reading the old `Y` and writing the new. A +0 addend (in `TMP`, for `ACC3`
in `Z`) leaves a finite `Y` other than -0 as it is and raises nothing; a +0 subtrahend leaves every finite
`Y` as it is and raises nothing. -/
def Obligations.AccumulationsRoundIntoY : Prop :=
  ∀ (s : State) (y a : XF), s.y = .holding y →
    (s.tmp = .holding a →
      exec .acc1 s = .next { s with
        y := .holding (FP.fsub s.params.defaultNan y a).value
        facc := s.facc ||| (FP.fsub s.params.defaultNan y a).flags, step := 45 } ∧
      (a = 0 → y.isFinite = true → exec .acc1 s = .next { s with step := 45 }) ∧
      ∀ i c, (i, c) ∈ [(Instr.acc2, (48 : StepCode)), (.acc4, 51), (.acc5, 53), (.acc6, 55)] →
        exec i s = .next { s with
          y := .holding (FP.fadd s.params.defaultNan y a).value
          facc := s.facc ||| (FP.fadd s.params.defaultNan y a).flags, step := c } ∧
        (a = 0 → y.isFinite = true → y ≠ XF.zero 1 → exec i s = .next { s with step := c })) ∧
    (s.z = .holding a →
      exec .acc3 s = .next { s with
        y := .holding (FP.fadd s.params.defaultNan y a).value
        facc := s.facc ||| (FP.fadd s.params.defaultNan y a).flags, step := 49 } ∧
      (a = 0 → y.isFinite = true → y ≠ XF.zero 1 → exec .acc3 s = .next { s with step := 49 }))

/-- `ECVT` is exact and raises nothing; `E = 0` gives +0. -/
def Obligations.EcvtIsExact : Prop :=
  ∀ (s : State) (e : BitVec 16), s.e = .holding e →
    ∃ v : XF, exec .ecvt s = .next { s with ef := .holding v, step := 46 } ∧ v.isFinite = true ∧
      FP.val v = e.toInt ∧ (e = 0 → v = 0)

/-- `EB` rounds `e * ln2b` once, NX exactly when it is inexact; `EA` gives `e * ln2a` exactly, no flag:
for every exponent adjustment the reducer can produce. -/
def Obligations.ExponentTerms : Prop :=
  ∀ (s : State) (e : BitVec 16), s.ef = .holding (FP.i2f e) → -16494 ≤ e.toInt → e.toInt ≤ 16384 →
    (∃ v : XF,
      exec .eb s = .next { s with
        tmp := .holding v, facc := s.facc ||| nxUnless v (e.toInt * FP.val constLn2b), step := 47 } ∧
      Nearest v ((e.toInt * FP.val constLn2b : ℚ) : ℝ) ∧ (e = 0 → v = 0)) ∧
    (∃ v : XF, exec .ea s = .next { s with tmp := .holding v, step := 54 } ∧
      v.isFinite = true ∧ FP.val v = e.toInt * 45426 / 2 ^ 16 ∧ (e = 0 → v = 0))

/-- `TM1` on a grid point is exact and raises nothing. -/
def Obligations.Tm1IsExact : Prop :=
  ∀ (s : State) (t : XF) (k : ℕ), s.t = .holding t → k ≤ 91 → t.isFinite = true →
    FP.val t = ((k : ℚ) + 90) / 128 →
    ∃ v : XF, exec .tm1 s = .next { s with tmp := .holding v, step := 52 } ∧ v.isFinite = true ∧
      FP.val v = ((k : ℚ) - 38) / 128 ∧ (k = 38 → v = 0)

/-- The transfers of the floating-point steps on ANY operands: the primitive of the rule, on the registers
and constants of the rule, into the register of the rule, its flags into `FACC`, nothing else. -/
def Obligations.FloatingPointTransfers : Prop :=
  ∀ (s : State) (v a : XF),
    (s.x = .holding v → exec .spcNeg1 s = .next { s with
      tmp := .holding (FP.fsub s.params.defaultNan v v).value
      facc := s.facc ||| (FP.fsub s.params.defaultNan v v).flags, step := 5 }) ∧
    (s.tmp = .holding v → exec .spcNeg2 s = .next { s with
      y := .holding (FP.fdiv s.params.defaultNan v constZero).value
      facc := s.facc ||| (FP.fdiv s.params.defaultNan v constZero).flags, step := 55 }) ∧
    (s.x = .holding v → exec .spcInfnan s = .next { s with
      y := .holding (FP.fadd s.params.defaultNan v v).value
      facc := s.facc ||| (FP.fadd s.params.defaultNan v v).flags, step := 55 }) ∧
    (s.x = .holding v → exec .znear s = .next { s with
      z := .holding (FP.fsub s.params.defaultNan v constOne).value
      facc := s.facc ||| (FP.fsub s.params.defaultNan v constOne).flags
      k := .holding 38, t := .holding constOne, e := .holding 0, step := 15 }) ∧
    (s.u = .holding v → s.t = .holding a → exec .zsub s = .next { s with
      tmp := .holding (FP.fsub s.params.defaultNan v a).value
      facc := s.facc ||| (FP.fsub s.params.defaultNan v a).flags, step := 14 }) ∧
    (s.tmp = .holding v → s.t = .holding a → exec .zdiv s = .next { s with
      z := .holding (FP.fdiv s.params.defaultNan v a).value
      facc := s.facc ||| (FP.fdiv s.params.defaultNan v a).flags, step := 15 }) ∧
    (s.z = .holding v → exec .sqr s = .next { s with
      w := .holding (FP.fmul s.params.defaultNan v v).value
      facc := s.facc ||| (FP.fmul s.params.defaultNan v v).flags, step := 16 }) ∧
    (s.p = .holding v → s.z = .holding a → exec .qmul s = .next { s with
      p := .holding (FP.fmul s.params.defaultNan v a).value
      facc := s.facc ||| (FP.fmul s.params.defaultNan v a).flags, step := 42 }) ∧
    (s.p = .holding v → s.w = .holding a → exec .ser s = .next { s with
      y := .holding (FP.fmul s.params.defaultNan v a).value
      facc := s.facc ||| (FP.fmul s.params.defaultNan v a).flags, step := 43 }) ∧
    (s.w = .holding v → exec .hw s = .next { s with
      tmp := .holding (FP.fmul s.params.defaultNan constHalf v).value
      facc := s.facc ||| (FP.fmul s.params.defaultNan constHalf v).flags, step := 44 }) ∧
    (s.ef = .holding v → exec .eb s = .next { s with
      tmp := .holding (FP.fmul s.params.defaultNan v constLn2b).value
      facc := s.facc ||| (FP.fmul s.params.defaultNan v constLn2b).flags, step := 47 }) ∧
    (s.t = .holding v → exec .tm1 s = .next { s with
      tmp := .holding (FP.fsub s.params.defaultNan v constOne).value
      facc := s.facc ||| (FP.fsub s.params.defaultNan v constOne).flags, step := 52 }) ∧
    (s.ef = .holding v → exec .ea s = .next { s with
      tmp := .holding (FP.fmul s.params.defaultNan v constLn2a).value
      facc := s.facc ||| (FP.fmul s.params.defaultNan v constLn2a).flags, step := 54 })

/-- Codes 15 to 54 as one expression: `Y` is the six accumulations over the series, `EF` and `T`, each
operation rounded, bracketed exactly as the spec brackets them. -/
def Obligations.AccumulatedResultAsOneExpression : Prop :=
  ∀ (s : State) (z t lg : XF) (k : BitVec 7) (e : BitVec 16), s.z = .holding z → s.t = .holding t →
    s.k = .holding k → s.e = .holding e → logtblRom[k.toNat]? = some lg →
    ∃ r : State, runList seriesAndAccumulate s = .next r ∧ r.step = 55 ∧
      r.y = .holding (accumulated s.params z t lg e) ∧
      r.z = s.z ∧ r.t = s.t ∧ r.k = s.k ∧ r.e = s.e ∧ r.x = s.x ∧ r.params = s.params ∧
      r.inputs = s.inputs

/-! Sequencer, handshake and the operation -/

/-- `IDLE`: with `req_valid = 1` the operand is captured, the flags are cleared and every other register
holds no value (that they are discarded here is the model's reading, log 3); with `req_valid = 0` an idle
block does not change. -/
def Obligations.IdleAcceptsOrWaits : Prop :=
  ∀ s : State,
    (s.pins.reqValid = true → ∃ t, exec .idle s = .next t ∧ t.x = .holding s.pins.reqX ∧ t.facc = 0 ∧
      t.step = 1 ∧ t.reqReady = false ∧ (∀ r, r ≠ .x → t.holdsReg r = false) ∧
      t.params = s.params ∧ t.inputs = s.inputs ∧ t.edges = s.edges) ∧
    (s.pins.reqValid = false → exec .idle s = .next { s with step := 0 })

/-- `DONE`: the response is offered, held without any register changing while it is not taken, and the
block is idle after it is taken. -/
def Obligations.DoneHoldsTheResponse : Prop :=
  ∀ s : State, s.y.holds = true →
    exec .done s = .next { s with step := if s.pins.rspReady then 0 else 55 } ∧
    (s.step = 55 → s.rspValid = true ∧ s.reqReady = false ∧ s.rspY = s.y.value ∧ s.rspFlags = s.facc) ∧
    (s.step = 55 → s.pins.rst = false → s.pins.rspReady = false →
      ∃ t, step s = .next t ∧ t.rspValid = true ∧ t.rspY = s.rspY ∧ t.rspFlags = s.rspFlags ∧
        t = { s with inputs := t.inputs, edges := t.edges })

/-- While an operation is in flight or a response waits, the request ports are ignored: two edges that
differ only in `req_valid` and `req_x` give the same step. The list of inputs is the model's own (log 5). -/
def Obligations.BusyBlockIgnoresRequests : Prop :=
  ∀ (s : State) (p q : PortIn) (later : List HostInput), s.step ≠ 0 → p.rst = q.rst →
    p.rspReady = q.rspReady →
    step { s with inputs := .edge p :: later } = step { s with inputs := .edge q :: later }

/-- Every request row, `LN` and each of its class rows, completes on the idle block: the response is
offered, `X` is the request word and `Y` holds a value, the parameters and the host's side stay; offered to
a block that is not idle it changes nothing; and a class row means what `LN` means on its word. That a
request row is one step is the model's form (log 5); that an ill-formed row too means `LN` on its encoded
word is the model's choice (log 16). -/
def Obligations.EveryRequestIsAnswered : Prop :=
  ∀ (i : Instr) (x : XF), encode i = .req x → ∀ s : State,
    (s.step = 0 → ∃ t, exec i s = .next t ∧ t.step = 55 ∧ t.rspValid = true ∧ t.x = .holding x ∧
      t.y.holds = true ∧ t.params = s.params ∧ t.inputs = s.inputs ∧ t.edges = s.edges) ∧
    (s.step ≠ 0 → exec i s = .next s) ∧
    exec i s = exec (.ln x) s

/-- What the four special rows answer, bit for bit, with their flags. -/
def Obligations.SpecialOperandResults : Prop :=
  ∀ s : State, s.step = 0 → s.params.defaultNan.isQuietNaN = true →
    (∀ sign, ∃ t, exec (.lnZero sign) s = .next t ∧ t.step = 55 ∧
      t.y = .holding 0xFFFF0000000000000000000000000000 ∧ t.facc = 0b01000) ∧
    (∀ mag, mag ≠ 0 → ∃ t, exec (.lnNeg mag) s = .next t ∧ t.step = 55 ∧
      (if (requestWord (.lnNeg mag)).isNaN then
        t.y = .holding (requestWord (.lnNeg mag) ||| (1 <<< 111)) ∧
        t.facc = if (requestWord (.lnNeg mag)).isQuietNaN then 0 else 0b10000
      else t.y = .holding s.params.defaultNan ∧ t.facc = 0b10000)) ∧
    (∀ frac, ∃ t, exec (.lnSpecial frac) s = .next t ∧ t.step = 55 ∧
      (if (requestWord (.lnSpecial frac)).isNaN then
        t.y = .holding (requestWord (.lnSpecial frac) ||| (1 <<< 111)) ∧
        t.facc = if (requestWord (.lnSpecial frac)).isQuietNaN then 0 else 0b10000
      else t.y = .holding 0x7FFF0000000000000000000000000000 ∧ t.facc = 0)) ∧
    (∃ t, exec .lnOne s = .next t ∧ t.step = 55 ∧ t.y = .holding 0 ∧ t.facc = 0)

/-- The sequencer takes one of six code sequences, one per operand class: from the accepting edge on, at
every edge without reset whatever the other inputs are, `STEP` runs through the codes of the operand's
class up to 55. One micro-operation a step is the model's form (log 4). -/
def Obligations.SixPathsOfTheSequencer : Prop :=
  ∀ (s : State) (p : PortIn) (es : List PortIn) (later : List HostInput), s.step = 0 →
    p.rst = false → p.reqValid = true → (∀ q ∈ es, q.rst = false) →
    es.length = (pathOf p.reqX).steps → ∀ n, n < (pathOf p.reqX).codes.length →
    ∃ t : State,
      Sys2Proof.core.run n ({ s with inputs := .edge p :: (es.map .edge ++ later) } : State) = .next t ∧
      (pathOf p.reqX).codes[n]? = some t.step.toNat

/-- The operation as one transaction is the run of its edges: after the accepting edge and as many edges
without reset as the class has steps, whatever the other inputs are, the block is in the state the
transaction gives, but for the host's side, which is the model's own (logs 4 and 5). -/
def Obligations.TransactionIsTheRunOfItsEdges : Prop :=
  ∀ (s : State) (p : PortIn) (es : List PortIn) (later : List HostInput), s.step = 0 →
    p.rst = false → p.reqValid = true → (∀ q ∈ es, q.rst = false) →
    es.length = (pathOf p.reqX).steps →
    ∃ t : State, exec (.ln p.reqX) s = .next t ∧
      Sys2Proof.core.run ((pathOf p.reqX).steps + 1)
        ({ s with inputs := .edge p :: (es.map .edge ++ later) } : State) =
      .next ({ t with inputs := later, edges := s.edges + (pathOf p.reqX).steps + 1 } : State)

/-- The response depends on the operand and the parameters alone: two idle blocks with the same parameters
and whatever else in their registers and flags end the same operation in the same state, but for the
host's side. `rsp_y` and `rsp_flags` are the spec's; that the end states agree in every other register too
rests on the accepting edge discarding them (log 3) and on the one content of an unheld register (log 2). -/
def Obligations.ResponseDependsOnOperandAlone : Prop :=
  ∀ (x : XF) (s q : State), s.step = 0 → q.step = 0 → s.params = q.params →
    ∃ t u : State, exec (.ln x) s = .next t ∧ exec (.ln x) q = .next u ∧
      t = { u with inputs := t.inputs, edges := t.edges } ∧ t.rspY = u.rspY ∧ t.rspFlags = u.rspFlags

/-- The flags of a response, per operand class, for every allowed `COEF`: no operation sets two flags, OF
and UF never appear; and no operand that reaches the accumulator gives an infinity or a NaN. -/
def Obligations.ResponseFlagsPerClass : Prop :=
  ∀ (x : XF) (s : State), s.step = 0 → s.params.Allowed →
    ∃ t : State, exec (.ln x) s = .next t ∧ t.rspFlags = t.facc ∧
      (pathOf x = .zero → t.facc = 0b01000) ∧
      (pathOf x = .neg → t.facc = if x.isQuietNaN then 0 else 0b10000) ∧
      (pathOf x = .special → t.facc = if x.isSignallingNaN then 0b10000 else 0) ∧
      (pathOf x = .one → t.facc = 0) ∧
      (pathOf x = .near1 ∨ pathOf x = .gen →
        (t.facc = 0b00000 ∨ t.facc = 0b00001) ∧ t.rspY.isFinite = true)

/-- The response to a positive finite operand other than 1.0 as one rounded expression. In the band the
residual is `x - 1` at the anchor; elsewhere `val(x) = 2^E * u` exactly, `T` is the grid point of index `K`
within 1/256 of `u`, and the residual is the rounded quotient `(u - t)/t`. -/
def Obligations.LnIsOneRoundedExpression : Prop :=
  ∀ (x : XF) (s : State), s.step = 0 →
    (pathOf x = .near1 → ∃ r : State, exec (.ln x) s = .next r ∧
      r.rspY = accumulated s.params (FP.fsub s.params.defaultNan x constOne).value constOne 0 0) ∧
    (pathOf x = .gen → ∃ (r : State) (u g lg : XF) (k : BitVec 7) (e : BitVec 16),
      exec (.ln x) s = .next r ∧ u.isFinite = true ∧ g.isFinite = true ∧
      FP.val x = 2 ^ e.toInt * FP.val u ∧
      703125 / 1000000 ≤ FP.val u ∧ FP.val u < 140625 / 100000 ∧
      FP.val g = ((k.toNat : ℚ) + 90) / 128 ∧
      -1 / 256 ≤ FP.val u - FP.val g ∧ FP.val u - FP.val g < 1 / 256 ∧
      logtblRom[k.toNat]? = some lg ∧
      r.rspY = accumulated s.params
        (FP.fdiv s.params.defaultNan (FP.fsub s.params.defaultNan u g).value g).value g lg e)
end

