-- ==== Sys2Proof/Laws/Fields.lean ====
section
/-! SUPPORT. The small lemmas of the fields of an encoding and of `pack` (R70, R101, R141). -/

namespace Sys2Proof.XF

/-- The word as a number, from its fields. -/
theorem toNat_pack (s : BitVec 1) (e : BitVec 15) (f : BitVec 112) :
    (pack s e f).toNat = s.toNat * 2 ^ 127 + e.toNat * 2 ^ 112 + f.toNat := by
  unfold pack
  rw [BitVec.toNat_append, BitVec.toNat_append]
  have he := e.isLt
  have hf := f.isLt
  rw [← Nat.shiftLeft_add_eq_or_of_lt hf, ← Nat.shiftLeft_add_eq_or_of_lt he]
  simp only [Nat.shiftLeft_eq]
  ring

theorem sign_toNat (v : XF) : v.sign.toNat = v.toNat / 2 ^ 127 := by
  have := v.isLt
  simp only [sign, BitVec.extractLsb'_toNat, Nat.shiftRight_eq_div_pow]
  omega

theorem bexp_toNat (v : XF) : v.bexp.toNat = v.toNat / 2 ^ 112 % 2 ^ 15 := by
  simp [bexp, Nat.shiftRight_eq_div_pow]

theorem frac_toNat (v : XF) : v.frac.toNat = v.toNat % 2 ^ 112 := by simp [frac]

theorem mag_toNat (v : XF) : v.mag.toNat = v.toNat % 2 ^ 127 := by simp [mag]

@[simp] theorem sign_pack (s : BitVec 1) (e : BitVec 15) (f : BitVec 112) : (pack s e f).sign = s := by
  apply BitVec.eq_of_toNat_eq
  have he := e.isLt
  have hf := f.isLt
  rw [sign_toNat, toNat_pack]
  omega

@[simp] theorem bexp_pack (s : BitVec 1) (e : BitVec 15) (f : BitVec 112) : (pack s e f).bexp = e := by
  apply BitVec.eq_of_toNat_eq
  have he := e.isLt
  have hf := f.isLt
  rw [bexp_toNat, toNat_pack]
  omega

@[simp] theorem frac_pack (s : BitVec 1) (e : BitVec 15) (f : BitVec 112) : (pack s e f).frac = f := by
  apply BitVec.eq_of_toNat_eq
  have hf := f.isLt
  rw [frac_toNat, toNat_pack]
  omega

end Sys2Proof.XF
end

