-- ==== Sys2Proof/Laws/State.lean ====
section
/-! SUPPORT. What each update of the state leaves in every field: one lemma per update, a conjunction with
one equation per field, each true by `rfl` and each a simp rule, so that no proof unfolds a record update. -/

namespace Sys2Proof.Machine

@[simp] theorem Register.holding_value {α : Type} (v : α) : (Register.holding v).value = v := rfl
@[simp] theorem Register.holding_holds {α : Type} (v : α) : (Register.holding v).holds = true := rfl
@[simp] theorem Register.unheld_holds {α : Type} [Inhabited α] :
    (Register.unheld : Register α).holds = false := rfl
@[simp] theorem Register.unheld_value {α : Type} [Inhabited α] :
    (Register.unheld : Register α).value = default := rfl

@[simp] theorem State.goto_fields (s : State) (c : StepCode) :
      (s.goto c).step = c ∧ (s.goto c).facc = s.facc ∧ (s.goto c).sgn = s.sgn ∧
      (s.goto c).bexp = s.bexp ∧ (s.goto c).frac = s.frac ∧ (s.goto c).cls = s.cls ∧
      (s.goto c).e0 = s.e0 ∧ (s.goto c).sig = s.sig ∧ (s.goto c).m17 = s.m17 ∧
      (s.goto c).tierb = s.tierb ∧ (s.goto c).j = s.j ∧ (s.goto c).k = s.k ∧ (s.goto c).e = s.e ∧
      (s.goto c).near1 = s.near1 ∧ (s.goto c).isone = s.isone ∧ (s.goto c).x = s.x ∧
      (s.goto c).u = s.u ∧ (s.goto c).t = s.t ∧ (s.goto c).z = s.z ∧ (s.goto c).w = s.w ∧
      (s.goto c).p = s.p ∧ (s.goto c).ef = s.ef ∧ (s.goto c).tmp = s.tmp ∧ (s.goto c).y = s.y ∧
      (s.goto c).params = s.params ∧ (s.goto c).inputs = s.inputs ∧ (s.goto c).edges = s.edges := by
  and_intros <;> rfl

@[simp] theorem State.raise_fields (s : State) (f : FlagBits) :
      (s.raise f).step = s.step ∧ (s.raise f).facc = s.facc ||| f ∧ (s.raise f).sgn = s.sgn ∧
      (s.raise f).bexp = s.bexp ∧ (s.raise f).frac = s.frac ∧ (s.raise f).cls = s.cls ∧
      (s.raise f).e0 = s.e0 ∧ (s.raise f).sig = s.sig ∧ (s.raise f).m17 = s.m17 ∧
      (s.raise f).tierb = s.tierb ∧ (s.raise f).j = s.j ∧ (s.raise f).k = s.k ∧
      (s.raise f).e = s.e ∧ (s.raise f).near1 = s.near1 ∧ (s.raise f).isone = s.isone ∧
      (s.raise f).x = s.x ∧ (s.raise f).u = s.u ∧ (s.raise f).t = s.t ∧ (s.raise f).z = s.z ∧
      (s.raise f).w = s.w ∧ (s.raise f).p = s.p ∧ (s.raise f).ef = s.ef ∧
      (s.raise f).tmp = s.tmp ∧ (s.raise f).y = s.y ∧ (s.raise f).params = s.params ∧
      (s.raise f).inputs = s.inputs ∧ (s.raise f).edges = s.edges := by
  and_intros <;> rfl

@[simp] theorem State.writeSgn_fields (s : State) (v : BitVec 1) :
      (s.writeSgn v).step = s.step ∧ (s.writeSgn v).facc = s.facc ∧
      (s.writeSgn v).sgn = .holding v ∧ (s.writeSgn v).bexp = s.bexp ∧
      (s.writeSgn v).frac = s.frac ∧ (s.writeSgn v).cls = s.cls ∧ (s.writeSgn v).e0 = s.e0 ∧
      (s.writeSgn v).sig = s.sig ∧ (s.writeSgn v).m17 = s.m17 ∧ (s.writeSgn v).tierb = s.tierb ∧
      (s.writeSgn v).j = s.j ∧ (s.writeSgn v).k = s.k ∧ (s.writeSgn v).e = s.e ∧
      (s.writeSgn v).near1 = s.near1 ∧ (s.writeSgn v).isone = s.isone ∧ (s.writeSgn v).x = s.x ∧
      (s.writeSgn v).u = s.u ∧ (s.writeSgn v).t = s.t ∧ (s.writeSgn v).z = s.z ∧
      (s.writeSgn v).w = s.w ∧ (s.writeSgn v).p = s.p ∧ (s.writeSgn v).ef = s.ef ∧
      (s.writeSgn v).tmp = s.tmp ∧ (s.writeSgn v).y = s.y ∧ (s.writeSgn v).params = s.params ∧
      (s.writeSgn v).inputs = s.inputs ∧ (s.writeSgn v).edges = s.edges := by
  and_intros <;> rfl

@[simp] theorem State.writeBexp_fields (s : State) (v : BitVec 15) :
      (s.writeBexp v).step = s.step ∧ (s.writeBexp v).facc = s.facc ∧
      (s.writeBexp v).sgn = s.sgn ∧ (s.writeBexp v).bexp = .holding v ∧
      (s.writeBexp v).frac = s.frac ∧ (s.writeBexp v).cls = s.cls ∧ (s.writeBexp v).e0 = s.e0 ∧
      (s.writeBexp v).sig = s.sig ∧ (s.writeBexp v).m17 = s.m17 ∧
      (s.writeBexp v).tierb = s.tierb ∧ (s.writeBexp v).j = s.j ∧ (s.writeBexp v).k = s.k ∧
      (s.writeBexp v).e = s.e ∧ (s.writeBexp v).near1 = s.near1 ∧
      (s.writeBexp v).isone = s.isone ∧ (s.writeBexp v).x = s.x ∧ (s.writeBexp v).u = s.u ∧
      (s.writeBexp v).t = s.t ∧ (s.writeBexp v).z = s.z ∧ (s.writeBexp v).w = s.w ∧
      (s.writeBexp v).p = s.p ∧ (s.writeBexp v).ef = s.ef ∧ (s.writeBexp v).tmp = s.tmp ∧
      (s.writeBexp v).y = s.y ∧ (s.writeBexp v).params = s.params ∧
      (s.writeBexp v).inputs = s.inputs ∧ (s.writeBexp v).edges = s.edges := by
  and_intros <;> rfl

@[simp] theorem State.writeFrac_fields (s : State) (v : BitVec 112) :
      (s.writeFrac v).step = s.step ∧ (s.writeFrac v).facc = s.facc ∧
      (s.writeFrac v).sgn = s.sgn ∧ (s.writeFrac v).bexp = s.bexp ∧
      (s.writeFrac v).frac = .holding v ∧ (s.writeFrac v).cls = s.cls ∧
      (s.writeFrac v).e0 = s.e0 ∧ (s.writeFrac v).sig = s.sig ∧ (s.writeFrac v).m17 = s.m17 ∧
      (s.writeFrac v).tierb = s.tierb ∧ (s.writeFrac v).j = s.j ∧ (s.writeFrac v).k = s.k ∧
      (s.writeFrac v).e = s.e ∧ (s.writeFrac v).near1 = s.near1 ∧
      (s.writeFrac v).isone = s.isone ∧ (s.writeFrac v).x = s.x ∧ (s.writeFrac v).u = s.u ∧
      (s.writeFrac v).t = s.t ∧ (s.writeFrac v).z = s.z ∧ (s.writeFrac v).w = s.w ∧
      (s.writeFrac v).p = s.p ∧ (s.writeFrac v).ef = s.ef ∧ (s.writeFrac v).tmp = s.tmp ∧
      (s.writeFrac v).y = s.y ∧ (s.writeFrac v).params = s.params ∧
      (s.writeFrac v).inputs = s.inputs ∧ (s.writeFrac v).edges = s.edges := by
  and_intros <;> rfl

@[simp] theorem State.writeCls_fields (s : State) (v : OperandClass) :
      (s.writeCls v).step = s.step ∧ (s.writeCls v).facc = s.facc ∧ (s.writeCls v).sgn = s.sgn ∧
      (s.writeCls v).bexp = s.bexp ∧ (s.writeCls v).frac = s.frac ∧
      (s.writeCls v).cls = .holding v ∧ (s.writeCls v).e0 = s.e0 ∧ (s.writeCls v).sig = s.sig ∧
      (s.writeCls v).m17 = s.m17 ∧ (s.writeCls v).tierb = s.tierb ∧ (s.writeCls v).j = s.j ∧
      (s.writeCls v).k = s.k ∧ (s.writeCls v).e = s.e ∧ (s.writeCls v).near1 = s.near1 ∧
      (s.writeCls v).isone = s.isone ∧ (s.writeCls v).x = s.x ∧ (s.writeCls v).u = s.u ∧
      (s.writeCls v).t = s.t ∧ (s.writeCls v).z = s.z ∧ (s.writeCls v).w = s.w ∧
      (s.writeCls v).p = s.p ∧ (s.writeCls v).ef = s.ef ∧ (s.writeCls v).tmp = s.tmp ∧
      (s.writeCls v).y = s.y ∧ (s.writeCls v).params = s.params ∧
      (s.writeCls v).inputs = s.inputs ∧ (s.writeCls v).edges = s.edges := by
  and_intros <;> rfl

@[simp] theorem State.writeE0_fields (s : State) (v : BitVec 16) :
      (s.writeE0 v).step = s.step ∧ (s.writeE0 v).facc = s.facc ∧ (s.writeE0 v).sgn = s.sgn ∧
      (s.writeE0 v).bexp = s.bexp ∧ (s.writeE0 v).frac = s.frac ∧ (s.writeE0 v).cls = s.cls ∧
      (s.writeE0 v).e0 = .holding v ∧ (s.writeE0 v).sig = s.sig ∧ (s.writeE0 v).m17 = s.m17 ∧
      (s.writeE0 v).tierb = s.tierb ∧ (s.writeE0 v).j = s.j ∧ (s.writeE0 v).k = s.k ∧
      (s.writeE0 v).e = s.e ∧ (s.writeE0 v).near1 = s.near1 ∧ (s.writeE0 v).isone = s.isone ∧
      (s.writeE0 v).x = s.x ∧ (s.writeE0 v).u = s.u ∧ (s.writeE0 v).t = s.t ∧
      (s.writeE0 v).z = s.z ∧ (s.writeE0 v).w = s.w ∧ (s.writeE0 v).p = s.p ∧
      (s.writeE0 v).ef = s.ef ∧ (s.writeE0 v).tmp = s.tmp ∧ (s.writeE0 v).y = s.y ∧
      (s.writeE0 v).params = s.params ∧ (s.writeE0 v).inputs = s.inputs ∧
      (s.writeE0 v).edges = s.edges := by
  and_intros <;> rfl

@[simp] theorem State.writeSig_fields (s : State) (v : BitVec 113) :
      (s.writeSig v).step = s.step ∧ (s.writeSig v).facc = s.facc ∧ (s.writeSig v).sgn = s.sgn ∧
      (s.writeSig v).bexp = s.bexp ∧ (s.writeSig v).frac = s.frac ∧ (s.writeSig v).cls = s.cls ∧
      (s.writeSig v).e0 = s.e0 ∧ (s.writeSig v).sig = .holding v ∧ (s.writeSig v).m17 = s.m17 ∧
      (s.writeSig v).tierb = s.tierb ∧ (s.writeSig v).j = s.j ∧ (s.writeSig v).k = s.k ∧
      (s.writeSig v).e = s.e ∧ (s.writeSig v).near1 = s.near1 ∧ (s.writeSig v).isone = s.isone ∧
      (s.writeSig v).x = s.x ∧ (s.writeSig v).u = s.u ∧ (s.writeSig v).t = s.t ∧
      (s.writeSig v).z = s.z ∧ (s.writeSig v).w = s.w ∧ (s.writeSig v).p = s.p ∧
      (s.writeSig v).ef = s.ef ∧ (s.writeSig v).tmp = s.tmp ∧ (s.writeSig v).y = s.y ∧
      (s.writeSig v).params = s.params ∧ (s.writeSig v).inputs = s.inputs ∧
      (s.writeSig v).edges = s.edges := by
  and_intros <;> rfl

@[simp] theorem State.writeM17_fields (s : State) (v : BitVec 17) :
      (s.writeM17 v).step = s.step ∧ (s.writeM17 v).facc = s.facc ∧ (s.writeM17 v).sgn = s.sgn ∧
      (s.writeM17 v).bexp = s.bexp ∧ (s.writeM17 v).frac = s.frac ∧ (s.writeM17 v).cls = s.cls ∧
      (s.writeM17 v).e0 = s.e0 ∧ (s.writeM17 v).sig = s.sig ∧ (s.writeM17 v).m17 = .holding v ∧
      (s.writeM17 v).tierb = s.tierb ∧ (s.writeM17 v).j = s.j ∧ (s.writeM17 v).k = s.k ∧
      (s.writeM17 v).e = s.e ∧ (s.writeM17 v).near1 = s.near1 ∧ (s.writeM17 v).isone = s.isone ∧
      (s.writeM17 v).x = s.x ∧ (s.writeM17 v).u = s.u ∧ (s.writeM17 v).t = s.t ∧
      (s.writeM17 v).z = s.z ∧ (s.writeM17 v).w = s.w ∧ (s.writeM17 v).p = s.p ∧
      (s.writeM17 v).ef = s.ef ∧ (s.writeM17 v).tmp = s.tmp ∧ (s.writeM17 v).y = s.y ∧
      (s.writeM17 v).params = s.params ∧ (s.writeM17 v).inputs = s.inputs ∧
      (s.writeM17 v).edges = s.edges := by
  and_intros <;> rfl

@[simp] theorem State.writeTierb_fields (s : State) (v : Bool) :
      (s.writeTierb v).step = s.step ∧ (s.writeTierb v).facc = s.facc ∧
      (s.writeTierb v).sgn = s.sgn ∧ (s.writeTierb v).bexp = s.bexp ∧
      (s.writeTierb v).frac = s.frac ∧ (s.writeTierb v).cls = s.cls ∧
      (s.writeTierb v).e0 = s.e0 ∧ (s.writeTierb v).sig = s.sig ∧ (s.writeTierb v).m17 = s.m17 ∧
      (s.writeTierb v).tierb = .holding v ∧ (s.writeTierb v).j = s.j ∧ (s.writeTierb v).k = s.k ∧
      (s.writeTierb v).e = s.e ∧ (s.writeTierb v).near1 = s.near1 ∧
      (s.writeTierb v).isone = s.isone ∧ (s.writeTierb v).x = s.x ∧ (s.writeTierb v).u = s.u ∧
      (s.writeTierb v).t = s.t ∧ (s.writeTierb v).z = s.z ∧ (s.writeTierb v).w = s.w ∧
      (s.writeTierb v).p = s.p ∧ (s.writeTierb v).ef = s.ef ∧ (s.writeTierb v).tmp = s.tmp ∧
      (s.writeTierb v).y = s.y ∧ (s.writeTierb v).params = s.params ∧
      (s.writeTierb v).inputs = s.inputs ∧ (s.writeTierb v).edges = s.edges := by
  and_intros <;> rfl

@[simp] theorem State.writeJ_fields (s : State) (v : BitVec 7) :
      (s.writeJ v).step = s.step ∧ (s.writeJ v).facc = s.facc ∧ (s.writeJ v).sgn = s.sgn ∧
      (s.writeJ v).bexp = s.bexp ∧ (s.writeJ v).frac = s.frac ∧ (s.writeJ v).cls = s.cls ∧
      (s.writeJ v).e0 = s.e0 ∧ (s.writeJ v).sig = s.sig ∧ (s.writeJ v).m17 = s.m17 ∧
      (s.writeJ v).tierb = s.tierb ∧ (s.writeJ v).j = .holding v ∧ (s.writeJ v).k = s.k ∧
      (s.writeJ v).e = s.e ∧ (s.writeJ v).near1 = s.near1 ∧ (s.writeJ v).isone = s.isone ∧
      (s.writeJ v).x = s.x ∧ (s.writeJ v).u = s.u ∧ (s.writeJ v).t = s.t ∧ (s.writeJ v).z = s.z ∧
      (s.writeJ v).w = s.w ∧ (s.writeJ v).p = s.p ∧ (s.writeJ v).ef = s.ef ∧
      (s.writeJ v).tmp = s.tmp ∧ (s.writeJ v).y = s.y ∧ (s.writeJ v).params = s.params ∧
      (s.writeJ v).inputs = s.inputs ∧ (s.writeJ v).edges = s.edges := by
  and_intros <;> rfl

@[simp] theorem State.writeK_fields (s : State) (v : BitVec 7) :
      (s.writeK v).step = s.step ∧ (s.writeK v).facc = s.facc ∧ (s.writeK v).sgn = s.sgn ∧
      (s.writeK v).bexp = s.bexp ∧ (s.writeK v).frac = s.frac ∧ (s.writeK v).cls = s.cls ∧
      (s.writeK v).e0 = s.e0 ∧ (s.writeK v).sig = s.sig ∧ (s.writeK v).m17 = s.m17 ∧
      (s.writeK v).tierb = s.tierb ∧ (s.writeK v).j = s.j ∧ (s.writeK v).k = .holding v ∧
      (s.writeK v).e = s.e ∧ (s.writeK v).near1 = s.near1 ∧ (s.writeK v).isone = s.isone ∧
      (s.writeK v).x = s.x ∧ (s.writeK v).u = s.u ∧ (s.writeK v).t = s.t ∧ (s.writeK v).z = s.z ∧
      (s.writeK v).w = s.w ∧ (s.writeK v).p = s.p ∧ (s.writeK v).ef = s.ef ∧
      (s.writeK v).tmp = s.tmp ∧ (s.writeK v).y = s.y ∧ (s.writeK v).params = s.params ∧
      (s.writeK v).inputs = s.inputs ∧ (s.writeK v).edges = s.edges := by
  and_intros <;> rfl

@[simp] theorem State.writeE_fields (s : State) (v : BitVec 16) :
      (s.writeE v).step = s.step ∧ (s.writeE v).facc = s.facc ∧ (s.writeE v).sgn = s.sgn ∧
      (s.writeE v).bexp = s.bexp ∧ (s.writeE v).frac = s.frac ∧ (s.writeE v).cls = s.cls ∧
      (s.writeE v).e0 = s.e0 ∧ (s.writeE v).sig = s.sig ∧ (s.writeE v).m17 = s.m17 ∧
      (s.writeE v).tierb = s.tierb ∧ (s.writeE v).j = s.j ∧ (s.writeE v).k = s.k ∧
      (s.writeE v).e = .holding v ∧ (s.writeE v).near1 = s.near1 ∧ (s.writeE v).isone = s.isone ∧
      (s.writeE v).x = s.x ∧ (s.writeE v).u = s.u ∧ (s.writeE v).t = s.t ∧ (s.writeE v).z = s.z ∧
      (s.writeE v).w = s.w ∧ (s.writeE v).p = s.p ∧ (s.writeE v).ef = s.ef ∧
      (s.writeE v).tmp = s.tmp ∧ (s.writeE v).y = s.y ∧ (s.writeE v).params = s.params ∧
      (s.writeE v).inputs = s.inputs ∧ (s.writeE v).edges = s.edges := by
  and_intros <;> rfl

@[simp] theorem State.writeNear1_fields (s : State) (v : Bool) :
      (s.writeNear1 v).step = s.step ∧ (s.writeNear1 v).facc = s.facc ∧
      (s.writeNear1 v).sgn = s.sgn ∧ (s.writeNear1 v).bexp = s.bexp ∧
      (s.writeNear1 v).frac = s.frac ∧ (s.writeNear1 v).cls = s.cls ∧
      (s.writeNear1 v).e0 = s.e0 ∧ (s.writeNear1 v).sig = s.sig ∧ (s.writeNear1 v).m17 = s.m17 ∧
      (s.writeNear1 v).tierb = s.tierb ∧ (s.writeNear1 v).j = s.j ∧ (s.writeNear1 v).k = s.k ∧
      (s.writeNear1 v).e = s.e ∧ (s.writeNear1 v).near1 = .holding v ∧
      (s.writeNear1 v).isone = s.isone ∧ (s.writeNear1 v).x = s.x ∧ (s.writeNear1 v).u = s.u ∧
      (s.writeNear1 v).t = s.t ∧ (s.writeNear1 v).z = s.z ∧ (s.writeNear1 v).w = s.w ∧
      (s.writeNear1 v).p = s.p ∧ (s.writeNear1 v).ef = s.ef ∧ (s.writeNear1 v).tmp = s.tmp ∧
      (s.writeNear1 v).y = s.y ∧ (s.writeNear1 v).params = s.params ∧
      (s.writeNear1 v).inputs = s.inputs ∧ (s.writeNear1 v).edges = s.edges := by
  and_intros <;> rfl

@[simp] theorem State.writeIsone_fields (s : State) (v : Bool) :
      (s.writeIsone v).step = s.step ∧ (s.writeIsone v).facc = s.facc ∧
      (s.writeIsone v).sgn = s.sgn ∧ (s.writeIsone v).bexp = s.bexp ∧
      (s.writeIsone v).frac = s.frac ∧ (s.writeIsone v).cls = s.cls ∧
      (s.writeIsone v).e0 = s.e0 ∧ (s.writeIsone v).sig = s.sig ∧ (s.writeIsone v).m17 = s.m17 ∧
      (s.writeIsone v).tierb = s.tierb ∧ (s.writeIsone v).j = s.j ∧ (s.writeIsone v).k = s.k ∧
      (s.writeIsone v).e = s.e ∧ (s.writeIsone v).near1 = s.near1 ∧
      (s.writeIsone v).isone = .holding v ∧ (s.writeIsone v).x = s.x ∧ (s.writeIsone v).u = s.u ∧
      (s.writeIsone v).t = s.t ∧ (s.writeIsone v).z = s.z ∧ (s.writeIsone v).w = s.w ∧
      (s.writeIsone v).p = s.p ∧ (s.writeIsone v).ef = s.ef ∧ (s.writeIsone v).tmp = s.tmp ∧
      (s.writeIsone v).y = s.y ∧ (s.writeIsone v).params = s.params ∧
      (s.writeIsone v).inputs = s.inputs ∧ (s.writeIsone v).edges = s.edges := by
  and_intros <;> rfl

@[simp] theorem State.writeX_fields (s : State) (v : XF) :
      (s.writeX v).step = s.step ∧ (s.writeX v).facc = s.facc ∧ (s.writeX v).sgn = s.sgn ∧
      (s.writeX v).bexp = s.bexp ∧ (s.writeX v).frac = s.frac ∧ (s.writeX v).cls = s.cls ∧
      (s.writeX v).e0 = s.e0 ∧ (s.writeX v).sig = s.sig ∧ (s.writeX v).m17 = s.m17 ∧
      (s.writeX v).tierb = s.tierb ∧ (s.writeX v).j = s.j ∧ (s.writeX v).k = s.k ∧
      (s.writeX v).e = s.e ∧ (s.writeX v).near1 = s.near1 ∧ (s.writeX v).isone = s.isone ∧
      (s.writeX v).x = .holding v ∧ (s.writeX v).u = s.u ∧ (s.writeX v).t = s.t ∧
      (s.writeX v).z = s.z ∧ (s.writeX v).w = s.w ∧ (s.writeX v).p = s.p ∧
      (s.writeX v).ef = s.ef ∧ (s.writeX v).tmp = s.tmp ∧ (s.writeX v).y = s.y ∧
      (s.writeX v).params = s.params ∧ (s.writeX v).inputs = s.inputs ∧
      (s.writeX v).edges = s.edges := by
  and_intros <;> rfl

@[simp] theorem State.writeU_fields (s : State) (v : XF) :
      (s.writeU v).step = s.step ∧ (s.writeU v).facc = s.facc ∧ (s.writeU v).sgn = s.sgn ∧
      (s.writeU v).bexp = s.bexp ∧ (s.writeU v).frac = s.frac ∧ (s.writeU v).cls = s.cls ∧
      (s.writeU v).e0 = s.e0 ∧ (s.writeU v).sig = s.sig ∧ (s.writeU v).m17 = s.m17 ∧
      (s.writeU v).tierb = s.tierb ∧ (s.writeU v).j = s.j ∧ (s.writeU v).k = s.k ∧
      (s.writeU v).e = s.e ∧ (s.writeU v).near1 = s.near1 ∧ (s.writeU v).isone = s.isone ∧
      (s.writeU v).x = s.x ∧ (s.writeU v).u = .holding v ∧ (s.writeU v).t = s.t ∧
      (s.writeU v).z = s.z ∧ (s.writeU v).w = s.w ∧ (s.writeU v).p = s.p ∧
      (s.writeU v).ef = s.ef ∧ (s.writeU v).tmp = s.tmp ∧ (s.writeU v).y = s.y ∧
      (s.writeU v).params = s.params ∧ (s.writeU v).inputs = s.inputs ∧
      (s.writeU v).edges = s.edges := by
  and_intros <;> rfl

@[simp] theorem State.writeT_fields (s : State) (v : XF) :
      (s.writeT v).step = s.step ∧ (s.writeT v).facc = s.facc ∧ (s.writeT v).sgn = s.sgn ∧
      (s.writeT v).bexp = s.bexp ∧ (s.writeT v).frac = s.frac ∧ (s.writeT v).cls = s.cls ∧
      (s.writeT v).e0 = s.e0 ∧ (s.writeT v).sig = s.sig ∧ (s.writeT v).m17 = s.m17 ∧
      (s.writeT v).tierb = s.tierb ∧ (s.writeT v).j = s.j ∧ (s.writeT v).k = s.k ∧
      (s.writeT v).e = s.e ∧ (s.writeT v).near1 = s.near1 ∧ (s.writeT v).isone = s.isone ∧
      (s.writeT v).x = s.x ∧ (s.writeT v).u = s.u ∧ (s.writeT v).t = .holding v ∧
      (s.writeT v).z = s.z ∧ (s.writeT v).w = s.w ∧ (s.writeT v).p = s.p ∧
      (s.writeT v).ef = s.ef ∧ (s.writeT v).tmp = s.tmp ∧ (s.writeT v).y = s.y ∧
      (s.writeT v).params = s.params ∧ (s.writeT v).inputs = s.inputs ∧
      (s.writeT v).edges = s.edges := by
  and_intros <;> rfl

@[simp] theorem State.writeZ_fields (s : State) (v : XF) :
      (s.writeZ v).step = s.step ∧ (s.writeZ v).facc = s.facc ∧ (s.writeZ v).sgn = s.sgn ∧
      (s.writeZ v).bexp = s.bexp ∧ (s.writeZ v).frac = s.frac ∧ (s.writeZ v).cls = s.cls ∧
      (s.writeZ v).e0 = s.e0 ∧ (s.writeZ v).sig = s.sig ∧ (s.writeZ v).m17 = s.m17 ∧
      (s.writeZ v).tierb = s.tierb ∧ (s.writeZ v).j = s.j ∧ (s.writeZ v).k = s.k ∧
      (s.writeZ v).e = s.e ∧ (s.writeZ v).near1 = s.near1 ∧ (s.writeZ v).isone = s.isone ∧
      (s.writeZ v).x = s.x ∧ (s.writeZ v).u = s.u ∧ (s.writeZ v).t = s.t ∧
      (s.writeZ v).z = .holding v ∧ (s.writeZ v).w = s.w ∧ (s.writeZ v).p = s.p ∧
      (s.writeZ v).ef = s.ef ∧ (s.writeZ v).tmp = s.tmp ∧ (s.writeZ v).y = s.y ∧
      (s.writeZ v).params = s.params ∧ (s.writeZ v).inputs = s.inputs ∧
      (s.writeZ v).edges = s.edges := by
  and_intros <;> rfl

@[simp] theorem State.writeW_fields (s : State) (v : XF) :
      (s.writeW v).step = s.step ∧ (s.writeW v).facc = s.facc ∧ (s.writeW v).sgn = s.sgn ∧
      (s.writeW v).bexp = s.bexp ∧ (s.writeW v).frac = s.frac ∧ (s.writeW v).cls = s.cls ∧
      (s.writeW v).e0 = s.e0 ∧ (s.writeW v).sig = s.sig ∧ (s.writeW v).m17 = s.m17 ∧
      (s.writeW v).tierb = s.tierb ∧ (s.writeW v).j = s.j ∧ (s.writeW v).k = s.k ∧
      (s.writeW v).e = s.e ∧ (s.writeW v).near1 = s.near1 ∧ (s.writeW v).isone = s.isone ∧
      (s.writeW v).x = s.x ∧ (s.writeW v).u = s.u ∧ (s.writeW v).t = s.t ∧ (s.writeW v).z = s.z ∧
      (s.writeW v).w = .holding v ∧ (s.writeW v).p = s.p ∧ (s.writeW v).ef = s.ef ∧
      (s.writeW v).tmp = s.tmp ∧ (s.writeW v).y = s.y ∧ (s.writeW v).params = s.params ∧
      (s.writeW v).inputs = s.inputs ∧ (s.writeW v).edges = s.edges := by
  and_intros <;> rfl

@[simp] theorem State.writeP_fields (s : State) (v : XF) :
      (s.writeP v).step = s.step ∧ (s.writeP v).facc = s.facc ∧ (s.writeP v).sgn = s.sgn ∧
      (s.writeP v).bexp = s.bexp ∧ (s.writeP v).frac = s.frac ∧ (s.writeP v).cls = s.cls ∧
      (s.writeP v).e0 = s.e0 ∧ (s.writeP v).sig = s.sig ∧ (s.writeP v).m17 = s.m17 ∧
      (s.writeP v).tierb = s.tierb ∧ (s.writeP v).j = s.j ∧ (s.writeP v).k = s.k ∧
      (s.writeP v).e = s.e ∧ (s.writeP v).near1 = s.near1 ∧ (s.writeP v).isone = s.isone ∧
      (s.writeP v).x = s.x ∧ (s.writeP v).u = s.u ∧ (s.writeP v).t = s.t ∧ (s.writeP v).z = s.z ∧
      (s.writeP v).w = s.w ∧ (s.writeP v).p = .holding v ∧ (s.writeP v).ef = s.ef ∧
      (s.writeP v).tmp = s.tmp ∧ (s.writeP v).y = s.y ∧ (s.writeP v).params = s.params ∧
      (s.writeP v).inputs = s.inputs ∧ (s.writeP v).edges = s.edges := by
  and_intros <;> rfl

@[simp] theorem State.writeEf_fields (s : State) (v : XF) :
      (s.writeEf v).step = s.step ∧ (s.writeEf v).facc = s.facc ∧ (s.writeEf v).sgn = s.sgn ∧
      (s.writeEf v).bexp = s.bexp ∧ (s.writeEf v).frac = s.frac ∧ (s.writeEf v).cls = s.cls ∧
      (s.writeEf v).e0 = s.e0 ∧ (s.writeEf v).sig = s.sig ∧ (s.writeEf v).m17 = s.m17 ∧
      (s.writeEf v).tierb = s.tierb ∧ (s.writeEf v).j = s.j ∧ (s.writeEf v).k = s.k ∧
      (s.writeEf v).e = s.e ∧ (s.writeEf v).near1 = s.near1 ∧ (s.writeEf v).isone = s.isone ∧
      (s.writeEf v).x = s.x ∧ (s.writeEf v).u = s.u ∧ (s.writeEf v).t = s.t ∧
      (s.writeEf v).z = s.z ∧ (s.writeEf v).w = s.w ∧ (s.writeEf v).p = s.p ∧
      (s.writeEf v).ef = .holding v ∧ (s.writeEf v).tmp = s.tmp ∧ (s.writeEf v).y = s.y ∧
      (s.writeEf v).params = s.params ∧ (s.writeEf v).inputs = s.inputs ∧
      (s.writeEf v).edges = s.edges := by
  and_intros <;> rfl

@[simp] theorem State.writeTmp_fields (s : State) (v : XF) :
      (s.writeTmp v).step = s.step ∧ (s.writeTmp v).facc = s.facc ∧ (s.writeTmp v).sgn = s.sgn ∧
      (s.writeTmp v).bexp = s.bexp ∧ (s.writeTmp v).frac = s.frac ∧ (s.writeTmp v).cls = s.cls ∧
      (s.writeTmp v).e0 = s.e0 ∧ (s.writeTmp v).sig = s.sig ∧ (s.writeTmp v).m17 = s.m17 ∧
      (s.writeTmp v).tierb = s.tierb ∧ (s.writeTmp v).j = s.j ∧ (s.writeTmp v).k = s.k ∧
      (s.writeTmp v).e = s.e ∧ (s.writeTmp v).near1 = s.near1 ∧ (s.writeTmp v).isone = s.isone ∧
      (s.writeTmp v).x = s.x ∧ (s.writeTmp v).u = s.u ∧ (s.writeTmp v).t = s.t ∧
      (s.writeTmp v).z = s.z ∧ (s.writeTmp v).w = s.w ∧ (s.writeTmp v).p = s.p ∧
      (s.writeTmp v).ef = s.ef ∧ (s.writeTmp v).tmp = .holding v ∧ (s.writeTmp v).y = s.y ∧
      (s.writeTmp v).params = s.params ∧ (s.writeTmp v).inputs = s.inputs ∧
      (s.writeTmp v).edges = s.edges := by
  and_intros <;> rfl

@[simp] theorem State.writeY_fields (s : State) (v : XF) :
      (s.writeY v).step = s.step ∧ (s.writeY v).facc = s.facc ∧ (s.writeY v).sgn = s.sgn ∧
      (s.writeY v).bexp = s.bexp ∧ (s.writeY v).frac = s.frac ∧ (s.writeY v).cls = s.cls ∧
      (s.writeY v).e0 = s.e0 ∧ (s.writeY v).sig = s.sig ∧ (s.writeY v).m17 = s.m17 ∧
      (s.writeY v).tierb = s.tierb ∧ (s.writeY v).j = s.j ∧ (s.writeY v).k = s.k ∧
      (s.writeY v).e = s.e ∧ (s.writeY v).near1 = s.near1 ∧ (s.writeY v).isone = s.isone ∧
      (s.writeY v).x = s.x ∧ (s.writeY v).u = s.u ∧ (s.writeY v).t = s.t ∧ (s.writeY v).z = s.z ∧
      (s.writeY v).w = s.w ∧ (s.writeY v).p = s.p ∧ (s.writeY v).ef = s.ef ∧
      (s.writeY v).tmp = s.tmp ∧ (s.writeY v).y = .holding v ∧ (s.writeY v).params = s.params ∧
      (s.writeY v).inputs = s.inputs ∧ (s.writeY v).edges = s.edges := by
  and_intros <;> rfl

@[simp] theorem State.discard_fields (s : State) :
      (s.discard).step = s.step ∧ (s.discard).facc = s.facc ∧ (s.discard).sgn = .unheld ∧
      (s.discard).bexp = .unheld ∧ (s.discard).frac = .unheld ∧ (s.discard).cls = .unheld ∧
      (s.discard).e0 = .unheld ∧ (s.discard).sig = .unheld ∧ (s.discard).m17 = .unheld ∧
      (s.discard).tierb = .unheld ∧ (s.discard).j = .unheld ∧ (s.discard).k = .unheld ∧
      (s.discard).e = .unheld ∧ (s.discard).near1 = .unheld ∧ (s.discard).isone = .unheld ∧
      (s.discard).x = .unheld ∧ (s.discard).u = .unheld ∧ (s.discard).t = .unheld ∧
      (s.discard).z = .unheld ∧ (s.discard).w = .unheld ∧ (s.discard).p = .unheld ∧
      (s.discard).ef = .unheld ∧ (s.discard).tmp = .unheld ∧ (s.discard).y = .unheld ∧
      (s.discard).params = s.params ∧ (s.discard).inputs = s.inputs ∧ (s.discard).edges = s.edges := by
  and_intros <;> rfl

@[simp] theorem State.accept_fields (s : State) (v : XF) :
      (s.accept v).step = 1 ∧ (s.accept v).facc = 0 ∧ (s.accept v).sgn = .unheld ∧
      (s.accept v).bexp = .unheld ∧ (s.accept v).frac = .unheld ∧ (s.accept v).cls = .unheld ∧
      (s.accept v).e0 = .unheld ∧ (s.accept v).sig = .unheld ∧ (s.accept v).m17 = .unheld ∧
      (s.accept v).tierb = .unheld ∧ (s.accept v).j = .unheld ∧ (s.accept v).k = .unheld ∧
      (s.accept v).e = .unheld ∧ (s.accept v).near1 = .unheld ∧ (s.accept v).isone = .unheld ∧
      (s.accept v).x = .holding v ∧ (s.accept v).u = .unheld ∧ (s.accept v).t = .unheld ∧
      (s.accept v).z = .unheld ∧ (s.accept v).w = .unheld ∧ (s.accept v).p = .unheld ∧
      (s.accept v).ef = .unheld ∧ (s.accept v).tmp = .unheld ∧ (s.accept v).y = .unheld ∧
      (s.accept v).params = s.params ∧ (s.accept v).inputs = s.inputs ∧
      (s.accept v).edges = s.edges := by
  and_intros <;> rfl

@[simp] theorem State.resetEdge_fields (s : State) :
      (s.resetEdge).step = 0 ∧ (s.resetEdge).facc = 0 ∧ (s.resetEdge).sgn = .unheld ∧
      (s.resetEdge).bexp = .unheld ∧ (s.resetEdge).frac = .unheld ∧
      (s.resetEdge).cls = .unheld ∧ (s.resetEdge).e0 = .unheld ∧ (s.resetEdge).sig = .unheld ∧
      (s.resetEdge).m17 = .unheld ∧ (s.resetEdge).tierb = .unheld ∧
      (s.resetEdge).j = .unheld ∧ (s.resetEdge).k = .unheld ∧ (s.resetEdge).e = .unheld ∧
      (s.resetEdge).near1 = .unheld ∧ (s.resetEdge).isone = .unheld ∧
      (s.resetEdge).x = .unheld ∧ (s.resetEdge).u = .unheld ∧ (s.resetEdge).t = .unheld ∧
      (s.resetEdge).z = .unheld ∧ (s.resetEdge).w = .unheld ∧ (s.resetEdge).p = .unheld ∧
      (s.resetEdge).ef = .unheld ∧ (s.resetEdge).tmp = .unheld ∧ (s.resetEdge).y = .unheld ∧
      (s.resetEdge).params = s.params ∧ (s.resetEdge).inputs = s.inputs ∧
      (s.resetEdge).edges = s.edges := by
  and_intros <;> rfl

@[simp] theorem State.holdAll_fields (s : State) :
      (s.holdAll).step = s.step ∧ (s.holdAll).facc = s.facc ∧
      (s.holdAll).sgn = .holding s.sgn.value ∧ (s.holdAll).bexp = .holding s.bexp.value ∧
      (s.holdAll).frac = .holding s.frac.value ∧ (s.holdAll).cls = .holding s.cls.value ∧
      (s.holdAll).e0 = .holding s.e0.value ∧ (s.holdAll).sig = .holding s.sig.value ∧
      (s.holdAll).m17 = .holding s.m17.value ∧ (s.holdAll).tierb = .holding s.tierb.value ∧
      (s.holdAll).j = .holding s.j.value ∧ (s.holdAll).k = .holding s.k.value ∧
      (s.holdAll).e = .holding s.e.value ∧ (s.holdAll).near1 = .holding s.near1.value ∧
      (s.holdAll).isone = .holding s.isone.value ∧ (s.holdAll).x = .holding s.x.value ∧
      (s.holdAll).u = .holding s.u.value ∧ (s.holdAll).t = .holding s.t.value ∧
      (s.holdAll).z = .holding s.z.value ∧ (s.holdAll).w = .holding s.w.value ∧
      (s.holdAll).p = .holding s.p.value ∧ (s.holdAll).ef = .holding s.ef.value ∧
      (s.holdAll).tmp = .holding s.tmp.value ∧ (s.holdAll).y = .holding s.y.value ∧
      (s.holdAll).params = s.params ∧ (s.holdAll).inputs = s.inputs ∧ (s.holdAll).edges = s.edges := by
  and_intros <;> rfl

@[simp] theorem State.fpTmp_fields (s : State) (r : FP.Result) :
      (s.fpTmp r).step = s.step ∧ (s.fpTmp r).facc = s.facc ||| r.flags ∧
      (s.fpTmp r).sgn = s.sgn ∧ (s.fpTmp r).bexp = s.bexp ∧ (s.fpTmp r).frac = s.frac ∧
      (s.fpTmp r).cls = s.cls ∧ (s.fpTmp r).e0 = s.e0 ∧ (s.fpTmp r).sig = s.sig ∧
      (s.fpTmp r).m17 = s.m17 ∧ (s.fpTmp r).tierb = s.tierb ∧ (s.fpTmp r).j = s.j ∧
      (s.fpTmp r).k = s.k ∧ (s.fpTmp r).e = s.e ∧ (s.fpTmp r).near1 = s.near1 ∧
      (s.fpTmp r).isone = s.isone ∧ (s.fpTmp r).x = s.x ∧ (s.fpTmp r).u = s.u ∧
      (s.fpTmp r).t = s.t ∧ (s.fpTmp r).z = s.z ∧ (s.fpTmp r).w = s.w ∧ (s.fpTmp r).p = s.p ∧
      (s.fpTmp r).ef = s.ef ∧ (s.fpTmp r).tmp = .holding r.value ∧ (s.fpTmp r).y = s.y ∧
      (s.fpTmp r).params = s.params ∧ (s.fpTmp r).inputs = s.inputs ∧ (s.fpTmp r).edges = s.edges := by
  and_intros <;> rfl

@[simp] theorem State.fpY_fields (s : State) (r : FP.Result) :
      (s.fpY r).step = s.step ∧ (s.fpY r).facc = s.facc ||| r.flags ∧ (s.fpY r).sgn = s.sgn ∧
      (s.fpY r).bexp = s.bexp ∧ (s.fpY r).frac = s.frac ∧ (s.fpY r).cls = s.cls ∧
      (s.fpY r).e0 = s.e0 ∧ (s.fpY r).sig = s.sig ∧ (s.fpY r).m17 = s.m17 ∧
      (s.fpY r).tierb = s.tierb ∧ (s.fpY r).j = s.j ∧ (s.fpY r).k = s.k ∧ (s.fpY r).e = s.e ∧
      (s.fpY r).near1 = s.near1 ∧ (s.fpY r).isone = s.isone ∧ (s.fpY r).x = s.x ∧
      (s.fpY r).u = s.u ∧ (s.fpY r).t = s.t ∧ (s.fpY r).z = s.z ∧ (s.fpY r).w = s.w ∧
      (s.fpY r).p = s.p ∧ (s.fpY r).ef = s.ef ∧ (s.fpY r).tmp = s.tmp ∧
      (s.fpY r).y = .holding r.value ∧ (s.fpY r).params = s.params ∧
      (s.fpY r).inputs = s.inputs ∧ (s.fpY r).edges = s.edges := by
  and_intros <;> rfl

@[simp] theorem State.fpZ_fields (s : State) (r : FP.Result) :
      (s.fpZ r).step = s.step ∧ (s.fpZ r).facc = s.facc ||| r.flags ∧ (s.fpZ r).sgn = s.sgn ∧
      (s.fpZ r).bexp = s.bexp ∧ (s.fpZ r).frac = s.frac ∧ (s.fpZ r).cls = s.cls ∧
      (s.fpZ r).e0 = s.e0 ∧ (s.fpZ r).sig = s.sig ∧ (s.fpZ r).m17 = s.m17 ∧
      (s.fpZ r).tierb = s.tierb ∧ (s.fpZ r).j = s.j ∧ (s.fpZ r).k = s.k ∧ (s.fpZ r).e = s.e ∧
      (s.fpZ r).near1 = s.near1 ∧ (s.fpZ r).isone = s.isone ∧ (s.fpZ r).x = s.x ∧
      (s.fpZ r).u = s.u ∧ (s.fpZ r).t = s.t ∧ (s.fpZ r).z = .holding r.value ∧
      (s.fpZ r).w = s.w ∧ (s.fpZ r).p = s.p ∧ (s.fpZ r).ef = s.ef ∧ (s.fpZ r).tmp = s.tmp ∧
      (s.fpZ r).y = s.y ∧ (s.fpZ r).params = s.params ∧ (s.fpZ r).inputs = s.inputs ∧
      (s.fpZ r).edges = s.edges := by
  and_intros <;> rfl

@[simp] theorem State.fpW_fields (s : State) (r : FP.Result) :
      (s.fpW r).step = s.step ∧ (s.fpW r).facc = s.facc ||| r.flags ∧ (s.fpW r).sgn = s.sgn ∧
      (s.fpW r).bexp = s.bexp ∧ (s.fpW r).frac = s.frac ∧ (s.fpW r).cls = s.cls ∧
      (s.fpW r).e0 = s.e0 ∧ (s.fpW r).sig = s.sig ∧ (s.fpW r).m17 = s.m17 ∧
      (s.fpW r).tierb = s.tierb ∧ (s.fpW r).j = s.j ∧ (s.fpW r).k = s.k ∧ (s.fpW r).e = s.e ∧
      (s.fpW r).near1 = s.near1 ∧ (s.fpW r).isone = s.isone ∧ (s.fpW r).x = s.x ∧
      (s.fpW r).u = s.u ∧ (s.fpW r).t = s.t ∧ (s.fpW r).z = s.z ∧
      (s.fpW r).w = .holding r.value ∧ (s.fpW r).p = s.p ∧ (s.fpW r).ef = s.ef ∧
      (s.fpW r).tmp = s.tmp ∧ (s.fpW r).y = s.y ∧ (s.fpW r).params = s.params ∧
      (s.fpW r).inputs = s.inputs ∧ (s.fpW r).edges = s.edges := by
  and_intros <;> rfl

@[simp] theorem State.fpP_fields (s : State) (r : FP.Result) :
      (s.fpP r).step = s.step ∧ (s.fpP r).facc = s.facc ||| r.flags ∧ (s.fpP r).sgn = s.sgn ∧
      (s.fpP r).bexp = s.bexp ∧ (s.fpP r).frac = s.frac ∧ (s.fpP r).cls = s.cls ∧
      (s.fpP r).e0 = s.e0 ∧ (s.fpP r).sig = s.sig ∧ (s.fpP r).m17 = s.m17 ∧
      (s.fpP r).tierb = s.tierb ∧ (s.fpP r).j = s.j ∧ (s.fpP r).k = s.k ∧ (s.fpP r).e = s.e ∧
      (s.fpP r).near1 = s.near1 ∧ (s.fpP r).isone = s.isone ∧ (s.fpP r).x = s.x ∧
      (s.fpP r).u = s.u ∧ (s.fpP r).t = s.t ∧ (s.fpP r).z = s.z ∧ (s.fpP r).w = s.w ∧
      (s.fpP r).p = .holding r.value ∧ (s.fpP r).ef = s.ef ∧ (s.fpP r).tmp = s.tmp ∧
      (s.fpP r).y = s.y ∧ (s.fpP r).params = s.params ∧ (s.fpP r).inputs = s.inputs ∧
      (s.fpP r).edges = s.edges := by
  and_intros <;> rfl

@[simp] theorem State.advanceFrom_fields (s : State) (q : State) :
      (s.advanceFrom q).step = s.step ∧ (s.advanceFrom q).facc = s.facc ∧
      (s.advanceFrom q).sgn = s.sgn ∧ (s.advanceFrom q).bexp = s.bexp ∧
      (s.advanceFrom q).frac = s.frac ∧ (s.advanceFrom q).cls = s.cls ∧
      (s.advanceFrom q).e0 = s.e0 ∧ (s.advanceFrom q).sig = s.sig ∧
      (s.advanceFrom q).m17 = s.m17 ∧ (s.advanceFrom q).tierb = s.tierb ∧
      (s.advanceFrom q).j = s.j ∧ (s.advanceFrom q).k = s.k ∧ (s.advanceFrom q).e = s.e ∧
      (s.advanceFrom q).near1 = s.near1 ∧ (s.advanceFrom q).isone = s.isone ∧
      (s.advanceFrom q).x = s.x ∧ (s.advanceFrom q).u = s.u ∧ (s.advanceFrom q).t = s.t ∧
      (s.advanceFrom q).z = s.z ∧ (s.advanceFrom q).w = s.w ∧ (s.advanceFrom q).p = s.p ∧
      (s.advanceFrom q).ef = s.ef ∧ (s.advanceFrom q).tmp = s.tmp ∧ (s.advanceFrom q).y = s.y ∧
      (s.advanceFrom q).params = s.params ∧ (s.advanceFrom q).inputs = q.remaining ∧
      (s.advanceFrom q).edges = q.edges + 1 := by
  and_intros <;> rfl

end Sys2Proof.Machine
end

