-- ==== Sys2Proof/Laws/Ops.lean ====
section
/-! SUPPORT. One lemma per shared operation that says everything it can do, for the provers to cite
instead of unfolding it. -/

namespace Sys2Proof.Machine

/-- A register read that gives a next state read a register that holds a value (R31). -/
theorem readReg_next {α : Type} {name : Reg} {r : Register α} {k : α → Result} {t : State} :
    readReg name r k = .next t ↔ r.holds = true ∧ k r.value = .next t := by
  unfold readReg; split <;> simp_all

/-- The read of a register that holds a value. -/
@[simp] theorem readReg_of_holds {α : Type} {name : Reg} {r : Register α} {k : α → Result}
    (h : r.holds = true) : readReg name r k = k r.value := by simp [readReg, h]

/-- The read of a register that holds no value is a fault (R31). -/
@[simp] theorem readReg_of_unheld {α : Type} {name : Reg} {r : Register α} {k : α → Result}
    (h : r.holds = false) : readReg name r k = .fault (.noValue name) := by simp [readReg, h]

/-- `rsp_y` is `Y` while a response is offered from a `Y` that holds a value (R22). -/
theorem State.rspY_of_held {s : State} (h : s.step = 55) (hy : s.y.holds = true) :
    s.rspY = s.y.value := by simp [State.rspY, State.rspValid, h, hy]

/-- `rsp_y` is a free value while `Y` holds none (log 21). -/
theorem State.rspY_of_unheld {s : State} (hy : s.y.holds = false) :
    s.rspY = Config.rspYUnspecified s.edges := by simp [State.rspY, hy]

/-- A ROM read that gives a next state read an index inside the space (R52). -/
theorem readRom_next {s : State} {sp : RomSpace} {i : Nat} {k : XF → Result} {t : State} :
    readRom s sp i k = .next t ↔ ∃ v, romRead s.params sp i = some v ∧ k v = .next t := by
  unfold readRom; split <;> simp_all

theorem readRom_of_word {s : State} {sp : RomSpace} {i : Nat} {k : XF → Result} {v : XF}
    (h : romRead s.params sp i = some v) : readRom s sp i k = k v := by simp [readRom, h]

theorem readRom_outside {s : State} {sp : RomSpace} {i : Nat} {k : XF → Result}
    (h : romRead s.params sp i = none) : readRom s sp i k = .refused (.romIndex sp i) := by
  simp [readRom, h]

@[simp] theorem readRom_const0 (s : State) (k : XF → Result) : readRom s .const 0 k = k constZero := rfl
@[simp] theorem readRom_const1 (s : State) (k : XF → Result) : readRom s .const 1 k = k constMhalf := rfl
@[simp] theorem readRom_const2 (s : State) (k : XF → Result) : readRom s .const 2 k = k constHalf := rfl
@[simp] theorem readRom_const3 (s : State) (k : XF → Result) : readRom s .const 3 k = k constOne := rfl
@[simp] theorem readRom_const4 (s : State) (k : XF → Result) : readRom s .const 4 k = k constBandLo := rfl
@[simp] theorem readRom_const5 (s : State) (k : XF → Result) : readRom s .const 5 k = k constBandHi := rfl
@[simp] theorem readRom_const6 (s : State) (k : XF → Result) : readRom s .const 6 k = k constLn2a := rfl
@[simp] theorem readRom_const7 (s : State) (k : XF → Result) : readRom s .const 7 k = k constLn2b := rfl

/-- The coefficient words, index `n - 3` (R52, R56). -/
theorem readRom_coef (s : State) (i : Fin 13) (k : XF → Result) :
    readRom s .coef i k = k s.params.coef[i] := by
  have h : romRead s.params .coef i = some s.params.coef[i] := by simp [romRead]
  exact readRom_of_word h

theorem logtblRom_length : logtblRom.length = 92 := by decide

/-- Every index of `LOGTBL` has a word (R52). -/
theorem readRom_logtbl (s : State) {i : Nat} (h : i < 92) (k : XF → Result) :
    readRom s .logtbl i k = k (logtblRom[i]'(by rw [logtblRom_length]; exact h)) := by
  have h' : romRead s.params .logtbl i = some (logtblRom[i]'(by rw [logtblRom_length]; exact h)) := by
    simp [romRead]
  exact readRom_of_word h'

/-- Sequencing gives a next state when both parts do (R283). -/
theorem andThen_next {r : Result} {k : State → Result} {t : State} :
    andThen r k = .next t ↔ ∃ u, r = .next u ∧ k u = .next t := by
  cases r <;> simp [andThen]

@[simp] theorem andThen_of_next (u : State) (k : State → Result) : andThen (.next u) k = k u := rfl

theorem runList_append (fs gs : List (State → Result)) (s : State) :
    runList (fs ++ gs) s = andThen (runList fs s) (runList gs) := by
  induction fs generalizing s with
  | nil => rfl
  | cons f fs ih =>
    simp only [List.cons_append, runList]
    cases h : f s <;> simp [andThen, ih]

/-- All that the multiply of a Horner step can do (R213). -/
theorem pmul_next {s t : State} :
    pmul s = .next t ↔ s.p.holds = true ∧ s.z.holds = true ∧
      t = (s.fpP (FP.fmul s.params.defaultNan s.p.value s.z.value)).goto (s.step + 1) := by
  simp only [pmul, readReg_next, Host.Outcome.next.injEq]
  rw [eq_comm (a := t)]

/-- All that the add of a Horner step can do (R214). -/
theorem padd_next {n : Nat} {s t : State} :
    padd n s = .next t ↔ s.p.holds = true ∧ ∃ c, romRead s.params .coef (n - 3) = some c ∧
      t = (s.fpP (FP.fadd s.params.defaultNan s.p.value c)).goto (s.step + 1) := by
  simp only [padd, readReg_next, readRom_next, Host.Outcome.next.injEq, eq_comm (b := t)]

/-- All that `Y <-f fadd(Y, TMP)` can do (R234, R237, R239, R241). -/
theorem addTmpToY_next {c : StepCode} {s t : State} :
    addTmpToY c s = .next t ↔ s.y.holds = true ∧ s.tmp.holds = true ∧
      t = (s.fpY (FP.fadd s.params.defaultNan s.y.value s.tmp.value)).goto c := by
  simp only [addTmpToY, readReg_next, Host.Outcome.next.injEq]
  rw [eq_comm (a := t)]

/-- A transaction offered to a block that is not idle changes nothing (R245). -/
theorem transact_busy {x : XF} {s : State} (h : s.step ≠ 0) : transact x s = .next s := by
  rw [transact, if_neg h]

/-- A transaction offered to the idle block runs from the accepting edge (R245, R247). -/
theorem transact_idle {x : XF} {s : State} (h : s.step = 0) :
    transact x s = runList [execDecomp, execClassify, afterClassify] (s.accept x) := by
  rw [transact, if_pos h]

/-- All that a step can do. -/
theorem step_next {s t : State} :
    step s = .next t ↔
      (s.pins.rst = true ∧ t = s.resetEdge.advanceFrom s) ∨
      (s.pins.rst = false ∧ ∃ i u, s.fetch = .ok i ∧ exec i s = .next u ∧ t = u.advanceFrom s) := by
  unfold step
  cases hr : s.pins.rst
  · cases hf : s.fetch with
    | error e => cases e; simp
    | ok i =>
      cases he : exec i s <;> simp [advance, he, andThen]
      exact eq_comm
  · simp
    exact eq_comm

end Sys2Proof.Machine
end

