-- ==== Sys2Proof/Laws/PerInstr.lean ====
section
/-! SUPPORT. A statement about each instruction as syntax: its word matches the mask and the match of its
row of spec/opcode_table.json, whatever its operand. -/

namespace Sys2Proof.Laws.MatchesRow

/-- The word of `i` has the length its row gives and agrees with the row's match under its mask. -/
def Statement (i : Instr) : Prop :=
  (encode i).bits = i.row.bits ∧ (encode i).toNat &&& i.row.mask = i.row.pattern

/-- A word's top bits under a mask of top bits. -/
theorem and_top_mask {w : Nat} {k m : Nat} (hi lo : Nat) (h : w = hi * 2 ^ k + lo) (hlo : lo < 2 ^ k) :
    w &&& (m * 2 ^ k) = (hi &&& m) * 2 ^ k := by
  subst h
  rw [← Nat.shiftLeft_eq, ← Nat.shiftLeft_eq, Nat.shiftLeft_add_eq_or_of_lt hlo, Nat.and_or_distrib_right,
    ← Nat.shiftLeft_and_distrib, Nat.shiftLeft_eq]
  have : lo &&& m <<< k = 0 := by
    apply Nat.eq_of_testBit_eq
    intro i
    simp only [Nat.testBit_and, Nat.testBit_shiftLeft, Nat.zero_testBit, Bool.and_eq_false_iff]
    by_cases hi : k ≤ i
    · left; exact Nat.testBit_lt_two_pow (lt_of_lt_of_le hlo (Nat.pow_le_pow_right (by decide) hi))
    · right; simp [hi]
  rw [this]; simp

/-- The number of `hi ++ lo`. -/
theorem append_toNat {a b : Nat} (hi : BitVec a) (lo : BitVec b) :
    (hi ++ lo).toNat = hi.toNat * 2 ^ b + lo.toNat := by
  rw [BitVec.toNat_append, ← Nat.shiftLeft_add_eq_or_of_lt lo.isLt, Nat.shiftLeft_eq]

theorem ln (x : XF) : Statement (.ln x) := ⟨rfl, Nat.and_zero _⟩

theorem lnZero (sign : BitVec 1) : Statement (.lnZero sign) := by
  refine ⟨rfl, ?_⟩
  show (sign ++ 0#127).toNat &&& (2 ^ 127 - 1) = 0
  rw [Nat.and_two_pow_sub_one_eq_mod, append_toNat]
  simp

theorem lnNeg (mag : BitVec 127) : Statement (.lnNeg mag) := by
  refine ⟨rfl, ?_⟩
  exact (and_top_mask (m := 1) 1 mag.toNat (append_toNat 1#1 mag) mag.isLt)

theorem lnSpecial (frac : BitVec 112) : Statement (.lnSpecial frac) := by
  refine ⟨rfl, ?_⟩
  exact (and_top_mask (m := 0x7FFF) 0x7FFF frac.toNat (append_toNat (0#1 ++ 0x7FFF#15) frac) frac.isLt)

theorem lnOne : Statement .lnOne := ⟨rfl, by decide⟩

theorem lnNear1Below (low : BitVec 106) : Statement (.lnNear1Below low) := by
  refine ⟨rfl, ?_⟩
  exact (and_top_mask (m := 0x3FFFFF) 0x0FFFBF low.toNat (append_toNat 0x0FFFBF#22 low) low.isLt)

theorem lnNear1Above (low : BitVec 105) : Statement (.lnNear1Above low) := by
  refine ⟨rfl, ?_⟩
  exact (and_top_mask (m := 0x7FFFFF) 0x1FFF80 low.toNat (append_toNat 0x1FFF80#23 low) low.isLt)

theorem lnNear1Top : Statement .lnNear1Top := ⟨rfl, by decide⟩

theorem lnGen (x : XF) : Statement (.lnGen x) := ⟨rfl, Nat.and_zero _⟩

theorem idle : Statement .idle := ⟨rfl, rfl⟩
theorem decomp : Statement .decomp := ⟨rfl, rfl⟩
theorem classify : Statement .classify := ⟨rfl, rfl⟩
theorem spcZero : Statement .spcZero := ⟨rfl, rfl⟩
theorem spcNeg1 : Statement .spcNeg1 := ⟨rfl, rfl⟩
theorem spcNeg2 : Statement .spcNeg2 := ⟨rfl, rfl⟩
theorem spcInfnan : Statement .spcInfnan := ⟨rfl, rfl⟩
theorem norm : Statement .norm := ⟨rfl, rfl⟩
theorem index : Statement .index := ⟨rfl, rfl⟩
theorem tbuild : Statement .tbuild := ⟨rfl, rfl⟩
theorem band : Statement .band := ⟨rfl, rfl⟩
theorem spcOne : Statement .spcOne := ⟨rfl, rfl⟩
theorem znear : Statement .znear := ⟨rfl, rfl⟩
theorem zsub : Statement .zsub := ⟨rfl, rfl⟩
theorem zdiv : Statement .zdiv := ⟨rfl, rfl⟩
theorem sqr : Statement .sqr := ⟨rfl, rfl⟩
theorem pinit : Statement .pinit := ⟨rfl, rfl⟩
theorem pmul14 : Statement .pmul14 := ⟨rfl, rfl⟩
theorem padd14 : Statement .padd14 := ⟨rfl, rfl⟩
theorem pmul13 : Statement .pmul13 := ⟨rfl, rfl⟩
theorem padd13 : Statement .padd13 := ⟨rfl, rfl⟩
theorem pmul12 : Statement .pmul12 := ⟨rfl, rfl⟩
theorem padd12 : Statement .padd12 := ⟨rfl, rfl⟩
theorem pmul11 : Statement .pmul11 := ⟨rfl, rfl⟩
theorem padd11 : Statement .padd11 := ⟨rfl, rfl⟩
theorem pmul10 : Statement .pmul10 := ⟨rfl, rfl⟩
theorem padd10 : Statement .padd10 := ⟨rfl, rfl⟩
theorem pmul9 : Statement .pmul9 := ⟨rfl, rfl⟩
theorem padd9 : Statement .padd9 := ⟨rfl, rfl⟩
theorem pmul8 : Statement .pmul8 := ⟨rfl, rfl⟩
theorem padd8 : Statement .padd8 := ⟨rfl, rfl⟩
theorem pmul7 : Statement .pmul7 := ⟨rfl, rfl⟩
theorem padd7 : Statement .padd7 := ⟨rfl, rfl⟩
theorem pmul6 : Statement .pmul6 := ⟨rfl, rfl⟩
theorem padd6 : Statement .padd6 := ⟨rfl, rfl⟩
theorem pmul5 : Statement .pmul5 := ⟨rfl, rfl⟩
theorem padd5 : Statement .padd5 := ⟨rfl, rfl⟩
theorem pmul4 : Statement .pmul4 := ⟨rfl, rfl⟩
theorem padd4 : Statement .padd4 := ⟨rfl, rfl⟩
theorem pmul3 : Statement .pmul3 := ⟨rfl, rfl⟩
theorem padd3 : Statement .padd3 := ⟨rfl, rfl⟩
theorem qmul : Statement .qmul := ⟨rfl, rfl⟩
theorem ser : Statement .ser := ⟨rfl, rfl⟩
theorem hw : Statement .hw := ⟨rfl, rfl⟩
theorem acc1 : Statement .acc1 := ⟨rfl, rfl⟩
theorem ecvt : Statement .ecvt := ⟨rfl, rfl⟩
theorem eb : Statement .eb := ⟨rfl, rfl⟩
theorem acc2 : Statement .acc2 := ⟨rfl, rfl⟩
theorem acc3 : Statement .acc3 := ⟨rfl, rfl⟩
theorem lut : Statement .lut := ⟨rfl, rfl⟩
theorem acc4 : Statement .acc4 := ⟨rfl, rfl⟩
theorem tm1 : Statement .tm1 := ⟨rfl, rfl⟩
theorem acc5 : Statement .acc5 := ⟨rfl, rfl⟩
theorem ea : Statement .ea := ⟨rfl, rfl⟩
theorem acc6 : Statement .acc6 := ⟨rfl, rfl⟩
theorem done : Statement .done := ⟨rfl, rfl⟩

end Sys2Proof.Laws.MatchesRow
end

