-- ==== Sys2Proof/Tests/Slice0.lean ====
section
/-! SUPPORT. Tests: the well-formedness smoke tests, a word of every row written out from the spec's
encoding tables and decoded, single steps against the vectors and traces of 95_test_vectors.md, and a
witness for the hypotheses of every obligation that has some. -/

-- One theorem after another: so many kernel evaluations at once would take a thread each.
set_option Elab.async false

open Sys2Proof Sys2Proof.Machine

namespace Sys2Proof.Tests

/-- `COEF_REF`, for test vectors only (20_memory.md R56), and the default `DEFAULT_NAN` (R103). -/
def refParams : Params :=
  { coef := #v[0x3FFD5555555555555555555555555555, 0xBFFD0000000000000000000000000000,
      0x3FFC999999999999999999999999999A, 0xBFFC5555555555555555555555555555,
      0x3FFC2492492492492492492492492492, 0xBFFC0000000000000000000000000000,
      0x3FFBC71C71C71C71C71C71C71C71C71C, 0xBFFB999999999999999999999999999A,
      0x3FFB745D1745D1745D1745D1745D1746, 0xBFFB5555555555555555555555555555,
      0x3FFB3B13B13B13B13B13B13B13B13B14, 0xBFFB2492492492492492492492492492,
      0x3FFB1111111111111111111111111111]
    defaultNan := 0x7FFF8000000000000000000000000000 }

/-- The idle block with the reference parameters. -/
def idle : State := { State.reset with params := refParams }

/-- The sequencer at code `c`, every register holding zeros. -/
def mid (c : StepCode) : State := { idle.holdAll with step := c }

/-- Whether `exec i s` is a next state with the property `f`. -/
def got (i : Instr) (s : State) (f : State → Bool) : Bool :=
  match exec i s with
  | .next t => f t
  | _ => false

/-- Whether `step s` is a next state with the property `f`. -/
def stepped (s : State) (f : State → Bool) : Bool :=
  match Machine.step s with
  | .next t => f t
  | _ => false

/-- An edge without reset with the other three input ports as given. -/
def port (reqValid : Bool) (reqX : XF) (rspReady : Bool) : HostInput :=
  .edge { rst := false, reqValid := reqValid, reqX := reqX, rspReady := rspReady }

/-! Well-formedness: an ill-formed term for each check -/

/-- The word with an empty magnitude belongs to `LN.ZERO` (R81). -/
theorem test_wf_lnNeg_zero_refused : (Instr.lnNeg 0).wellFormed = false := by decide
/-- The word of 1.0 belongs to `LN.ONE` (R81). -/
theorem test_wf_lnNear1Above_one_refused : (Instr.lnNear1Above 0).wellFormed = false := by decide
theorem test_wf_lnGen_zero_refused : (Instr.lnGen 0).wellFormed = false := by decide
theorem test_wf_lnGen_negative_refused :
    (Instr.lnGen 0xC0000000000000000000000000000000).wellFormed = false := by decide
theorem test_wf_lnGen_infinity_refused :
    (Instr.lnGen 0x7FFF0000000000000000000000000000).wellFormed = false := by decide
theorem test_wf_lnGen_band_end_refused :
    (Instr.lnGen 0x3FFF0200000000000000000000000000).wellFormed = false := by decide
theorem test_wf_lnGen_outside_band :
    (Instr.lnGen 0x3FFF0200000000000000000000000001).wellFormed = true := by decide
theorem test_wf_lnNeg_accepted : (Instr.lnNeg 1).wellFormed = true := by decide

/-! Decoding: a word of every row, from R74 and R81 -/

theorem test_decode_sequencer_and_special :
    decode (.uop 0b000000) = .ok .idle ∧
    decode (.uop 0b000001) = .ok .decomp ∧
    decode (.uop 0b000010) = .ok .classify ∧
    decode (.uop 0b000011) = .ok .spcZero ∧
    decode (.uop 0b000100) = .ok .spcNeg1 ∧
    decode (.uop 0b000101) = .ok .spcNeg2 ∧
    decode (.uop 0b000110) = .ok .spcInfnan ∧
    decode (.uop 0b000111) = .ok .norm ∧
    decode (.uop 0b001000) = .ok .index ∧
    decode (.uop 0b001001) = .ok .tbuild ∧
    decode (.uop 0b001010) = .ok .band ∧
    decode (.uop 0b001011) = .ok .spcOne ∧
    decode (.uop 0b001100) = .ok .znear ∧
    decode (.uop 0b001101) = .ok .zsub ∧
    decode (.uop 0b001110) = .ok .zdiv := by decide

theorem test_decode_poly :
    decode (.uop 0b001111) = .ok .sqr ∧
    decode (.uop 0b010000) = .ok .pinit ∧
    decode (.uop 0b010001) = .ok .pmul14 ∧
    decode (.uop 0b010010) = .ok .padd14 ∧
    decode (.uop 0b010011) = .ok .pmul13 ∧
    decode (.uop 0b010100) = .ok .padd13 ∧
    decode (.uop 0b010101) = .ok .pmul12 ∧
    decode (.uop 0b010110) = .ok .padd12 ∧
    decode (.uop 0b010111) = .ok .pmul11 ∧
    decode (.uop 0b011000) = .ok .padd11 ∧
    decode (.uop 0b011001) = .ok .pmul10 ∧
    decode (.uop 0b011010) = .ok .padd10 ∧
    decode (.uop 0b011011) = .ok .pmul9 ∧
    decode (.uop 0b011100) = .ok .padd9 ∧
    decode (.uop 0b011101) = .ok .pmul8 ∧
    decode (.uop 0b011110) = .ok .padd8 ∧
    decode (.uop 0b011111) = .ok .pmul7 ∧
    decode (.uop 0b100000) = .ok .padd7 ∧
    decode (.uop 0b100001) = .ok .pmul6 ∧
    decode (.uop 0b100010) = .ok .padd6 ∧
    decode (.uop 0b100011) = .ok .pmul5 ∧
    decode (.uop 0b100100) = .ok .padd5 ∧
    decode (.uop 0b100101) = .ok .pmul4 ∧
    decode (.uop 0b100110) = .ok .padd4 ∧
    decode (.uop 0b100111) = .ok .pmul3 ∧
    decode (.uop 0b101000) = .ok .padd3 ∧
    decode (.uop 0b101001) = .ok .qmul ∧
    decode (.uop 0b101010) = .ok .ser := by decide

theorem test_decode_accumulator :
    decode (.uop 0b101011) = .ok .hw ∧
    decode (.uop 0b101100) = .ok .acc1 ∧
    decode (.uop 0b101101) = .ok .ecvt ∧
    decode (.uop 0b101110) = .ok .eb ∧
    decode (.uop 0b101111) = .ok .acc2 ∧
    decode (.uop 0b110000) = .ok .acc3 ∧
    decode (.uop 0b110001) = .ok .lut ∧
    decode (.uop 0b110010) = .ok .acc4 ∧
    decode (.uop 0b110011) = .ok .tm1 ∧
    decode (.uop 0b110100) = .ok .acc5 ∧
    decode (.uop 0b110101) = .ok .ea ∧
    decode (.uop 0b110110) = .ok .acc6 ∧
    decode (.uop 0b110111) = .ok .done := by decide

theorem test_decode_reserved :
    ∀ c : StepCode, 56 ≤ c.toNat → decode (.uop c) = .error (.reservedCode c) := by decide

theorem test_decode_lnZero :
    decode (.req 0x80000000000000000000000000000000) = .ok (.lnZero 1) := by decide
theorem test_decode_lnNeg :
    decode (.req 0x80000000000000000000000000000001) = .ok (.lnNeg 1) := by decide
theorem test_decode_lnNeg_infinity :
    decode (.req 0xFFFF0000000000000000000000000000) = .ok (.lnNeg 0x7FFF0000000000000000000000000000) := by decide
theorem test_decode_lnSpecial :
    decode (.req 0x7FFF0000000000000000000000001234) = .ok (.lnSpecial 0x1234) := by decide
theorem test_decode_lnOne :
    decode (.req 0x3FFF0000000000000000000000000000) = .ok (.lnOne) := by decide
theorem test_decode_lnNear1Below :
    decode (.req 0x3FFEFC00000000000000000000000000) = .ok (.lnNear1Below 0) := by decide
theorem test_decode_lnNear1Below_last :
    decode (.req 0x3FFEFFFFFFFFFFFFFFFFFFFFFFFFFFFF) = .ok (.lnNear1Below 0x3FFFFFFFFFFFFFFFFFFFFFFFFFF) := by decide
theorem test_decode_lnNear1Above :
    decode (.req 0x3FFF01FFFFFFFFFFFFFFFFFFFFFFFFFF) = .ok (.lnNear1Above 0x1FFFFFFFFFFFFFFFFFFFFFFFFFF) := by decide
theorem test_decode_lnNear1Top :
    decode (.req 0x3FFF0200000000000000000000000000) = .ok (.lnNear1Top) := by decide
theorem test_decode_lnGen_below :
    decode (.req 0x3FFEFBFFFFFFFFFFFFFFFFFFFFFFFFFF) = .ok (.lnGen 0x3FFEFBFFFFFFFFFFFFFFFFFFFFFFFFFF) := by decide
theorem test_decode_lnGen_above :
    decode (.req 0x3FFF0200000000000000000000000001) = .ok (.lnGen 0x3FFF0200000000000000000000000001) := by decide
/-- `LN` has mask 0: its words decode to the class row that refines it (R81). -/
theorem test_encode_ln : encode (.ln 0x40024000000000000000000000000000) =
    .req 0x40024000000000000000000000000000 := by decide
/-- The bits of the byte above the six code bits are no part of the code (R72). -/
theorem test_decodeTableWord : decodeTableWord 8 0x0E = some .zdiv ∧ decodeTableWord 8 0x38 = none ∧
    decodeTableWord 128 0x3FFF0000000000000000000000000000 = some .lnOne := by decide

/-! Single steps: program P4 (`LN 0.99`, `COEF_REF`), each row of its trace from the row before -/

theorem test_decomp : got .decomp
    { mid 1 with x := .holding 0x3FFEFAE147AE147AE147AE147AE147AE, facc := 0 }
    (fun t => t.sgn == .holding 0 && t.bexp == .holding 0x3FFE && t.frac == .holding 0xFAE147AE147AE147AE147AE147AE && t.facc == 0 && t.step == 2) = true := by
  decide +kernel
theorem test_classify : got .classify
    { mid 2 with sgn := .holding 0, bexp := .holding 0x3FFE, frac := .holding 0xFAE147AE147AE147AE147AE147AE, facc := 0 }
    (fun t => t.cls == .holding .posfin && t.facc == 0 && t.step == 7) = true := by
  decide +kernel
theorem test_norm : got .norm
    { mid 7 with bexp := .holding 0x3FFE, frac := .holding 0xFAE147AE147AE147AE147AE147AE, facc := 0 }
    (fun t => t.e0 == .holding (BitVec.ofInt 16 (-1)) && t.sig == .holding 0x1FAE147AE147AE147AE147AE147AE && t.facc == 0 && t.step == 8) = true := by
  decide +kernel
theorem test_index : got .index
    { mid 8 with sig := .holding 0x1FAE147AE147AE147AE147AE147AE, e0 := .holding (BitVec.ofInt 16 (-1)), facc := 0 }
    (fun t => t.m17 == .holding 0x1FAE1 && t.tierb == .holding true && t.j == .holding 63 && t.k == .holding 37 && t.e == .holding 0 && t.facc == 0 && t.step == 9) = true := by
  decide +kernel
theorem test_tbuild : got .tbuild
    { mid 9 with tierb := .holding true, j := .holding 63, sig := .holding 0x1FAE147AE147AE147AE147AE147AE, facc := 0 }
    (fun t => t.t == .holding 0x3FFEFC00000000000000000000000000 && t.u == .holding 0x3FFEFAE147AE147AE147AE147AE147AE && t.facc == 0 && t.step == 10) = true := by
  decide +kernel
theorem test_band : got .band
    { mid 10 with x := .holding 0x3FFEFAE147AE147AE147AE147AE147AE, facc := 0 }
    (fun t => t.near1 == .holding false && t.isone == .holding false && t.facc == 0 && t.step == 13) = true := by
  decide +kernel
theorem test_zsub : got .zsub
    { mid 13 with u := .holding 0x3FFEFAE147AE147AE147AE147AE147AE, t := .holding 0x3FFEFC00000000000000000000000000, facc := 0 }
    (fun t => t.tmp == .holding 0xBFF61EB851EB851EB851EB851EB85200 && t.facc == 0 && t.step == 14) = true := by
  decide +kernel
theorem test_zdiv : got .zdiv
    { mid 14 with tmp := .holding 0xBFF61EB851EB851EB851EB851EB85200, t := .holding 0x3FFEFC00000000000000000000000000, facc := 0 }
    (fun t => t.z == .holding 0xBFF620FA4678760ACDEDC7134542D7AF && t.facc == 1 && t.step == 15) = true := by
  decide +kernel
theorem test_sqr : got .sqr
    { mid 15 with z := .holding 0xBFF620FA4678760ACDEDC7134542D7AF, facc := 1 }
    (fun t => t.w == .holding 0x3FED4634133CC044F5ADFD813B8EC788 && t.facc == 1 && t.step == 16) = true := by
  decide +kernel
theorem test_pinit : got .pinit
    { mid 16 with facc := 1 }
    (fun t => t.p == .holding 0x3FFB1111111111111111111111111111 && t.facc == 1 && t.step == 17) = true := by
  decide +kernel
theorem test_pmul14 : got .pmul14
    { mid 17 with p := .holding 0x3FFB1111111111111111111111111111, z := .holding 0xBFF620FA4678760ACDEDC7134542D7AF, facc := 1 }
    (fun t => t.p == .holding 0xBFF2343E29090671ECB95CE15AF1F721 && t.facc == 1 && t.step == 18) = true := by
  decide +kernel
theorem test_padd14 : got .padd14
    { mid 18 with p := .holding 0xBFF2343E29090671ECB95CE15AF1F721, facc := 1 }
    (fun t => t.p == .holding 0xBFFB252C683916CC5D88A5D302F69D8E && t.facc == 1 && t.step == 19) = true := by
  decide +kernel
theorem test_pmul13 : got .pmul13
    { mid 19 with p := .holding 0xBFFB252C683916CC5D88A5D302F69D8E, z := .holding 0xBFF620FA4678760ACDEDC7134542D7AF, facc := 1 }
    (fun t => t.p == .holding 0x3FF24AF0935219E57B66E3A96AA1CB2E && t.facc == 1 && t.step == 20) = true := by
  decide +kernel
theorem test_padd13 : got .padd13
    { mid 20 with p := .holding 0x3FF24AF0935219E57B66E3A96AA1CB2E, facc := 1 }
    (fun t => t.p == .holding 0x3FFB3BB92984BCBE2DD164ACE8668BFA && t.facc == 1 && t.step == 21) = true := by
  decide +kernel
theorem test_pmul12 : got .pmul12
    { mid 21 with p := .holding 0x3FFB3BB92984BCBE2DD164ACE8668BFA, z := .holding 0xBFF620FA4678760ACDEDC7134542D7AF, facc := 1 }
    (fun t => t.p == .holding 0xBFF26464F87111B0B3701DCA08FFBB0D && t.facc == 1 && t.step == 22) = true := by
  decide +kernel
theorem test_padd12 : got .padd12
    { mid 22 with p := .holding 0xBFF26464F87111B0B3701DCA08FFBB0D, facc := 1 }
    (fun t => t.p == .holding 0xBFFB560787D18DDE2DAF0D643A59D533 && t.facc == 1 && t.step == 23) = true := by
  decide +kernel
theorem test_pmul11 : got .pmul11
    { mid 23 with p := .holding 0xBFFB560787D18DDE2DAF0D643A59D533, z := .holding 0xBFF620FA4678760ACDEDC7134542D7AF, facc := 1 }
    (fun t => t.p == .holding 0x3FF28216DA4D629F5D6A68F03641C458 && t.facc == 1 && t.step == 24) = true := by
  decide +kernel
theorem test_padd11 : got .padd11
    { mid 24 with p := .holding 0x3FF28216DA4D629F5D6A68F03641C458, facc := 1 }
    (fun t => t.p == .holding 0x3FFB751E22B2F825ACC5FB05EC783828 && t.facc == 1 && t.step == 25) = true := by
  decide +kernel
theorem test_pmul10 : got .pmul10
    { mid 25 with p := .holding 0x3FFB751E22B2F825ACC5FB05EC783828, z := .holding 0xBFF620FA4678760ACDEDC7134542D7AF, facc := 1 }
    (fun t => t.p == .holding 0xBFF2A52EAD2D09998E379CD9EFEB9B58 && t.facc == 1 && t.step == 26) = true := by
  decide +kernel
theorem test_padd10 : got .padd10
    { mid 26 with p := .holding 0xBFF2A52EAD2D09998E379CD9EFEB9B58, facc := 1 }
    (fun t => t.p == .holding 0xBFFB9A6C30F0301E6660B56806918F68 && t.facc == 1 && t.step == 27) = true := by
  decide +kernel
theorem test_pmul9 : got .pmul9
    { mid 27 with p := .holding 0xBFFB9A6C30F0301E6660B56806918F68, z := .holding 0xBFF620FA4678760ACDEDC7134542D7AF, facc := 1 }
    (fun t => t.p == .holding 0x3FF2CF4AF5B0B608FF8A1CD7264BC7A9 && t.facc == 1 && t.step == 28) = true := by
  decide +kernel
theorem test_padd9 : got .padd9
    { mid 28 with p := .holding 0x3FF2CF4AF5B0B608FF8A1CD7264BC7A9, facc := 1 }
    (fun t => t.p == .holding 0x3FFBC8041741F4CCCB9C36D58804ED00 && t.facc == 1 && t.step == 29) = true := by
  decide +kernel
theorem test_pmul8 : got .pmul8
    { mid 29 with p := .holding 0x3FFBC8041741F4CCCB9C36D58804ED00, z := .holding 0xBFF620FA4678760ACDEDC7134542D7AF, facc := 1 }
    (fun t => t.p == .holding 0xBFF3016135D84E2DC34EBC2D5F3C1BBA && t.facc == 1 && t.step == 30) = true := by
  decide +kernel
theorem test_padd8 : got .padd8
    { mid 30 with p := .holding 0xBFF3016135D84E2DC34EBC2D5F3C1BBA, facc := 1 }
    (fun t => t.p == .holding 0xBFFC0080B09AEC2716E1A75E16AF9E0E && t.facc == 1 && t.step == 31) = true := by
  decide +kernel
theorem test_pmul7 : got .pmul7
    { mid 31 with p := .holding 0xBFFC0080B09AEC2716E1A75E16AF9E0E, z := .holding 0xBFF620FA4678760ACDEDC7134542D7AF, facc := 1 }
    (fun t => t.p == .holding 0x3FF3218B8AF6A3D9E1DF3229DDC7EF0C && t.facc == 1 && t.step == 32) = true := by
  decide +kernel
theorem test_padd7 : got .padd7
    { mid 32 with p := .holding 0x3FF3218B8AF6A3D9E1DF3229DDC7EF0C, facc := 1 }
    (fun t => t.p == .holding 0x3FFC25230EEA0D9B118338BDA738088A && t.facc == 1 && t.step == 33) = true := by
  decide +kernel
theorem test_pmul6 : got .pmul6
    { mid 33 with p := .holding 0x3FFC25230EEA0D9B118338BDA738088A, z := .holding 0xBFF620FA4678760ACDEDC7134542D7AF, facc := 1 }
    (fun t => t.p == .holding 0xBFF34AE605B5658D429D51396B90C4CB && t.facc == 1 && t.step == 34) = true := by
  decide +kernel
theorem test_padd6 : got .padd6
    { mid 34 with p := .holding 0xBFF34AE605B5658D429D51396B90C4CB, facc := 1 }
    (fun t => t.p == .holding 0xBFFC55FAC85830081BF6A3FDF20B1DB7 && t.facc == 1 && t.step == 35) = true := by
  decide +kernel
theorem test_pmul5 : got .pmul5
    { mid 35 with p := .holding 0xBFFC55FAC85830081BF6A3FDF20B1DB7, z := .holding 0xBFF620FA4678760ACDEDC7134542D7AF, facc := 1 }
    (fun t => t.p == .holding 0x3FF38208766E5A2E151571EBC7EE3B4A && t.facc == 1 && t.step == 36) = true := by
  decide +kernel
theorem test_padd5 : got .padd5
    { mid 36 with p := .holding 0x3FF38208766E5A2E151571EBC7EE3B4A, facc := 1 }
    (fun t => t.p == .holding 0x3FFC9A5A9DD4D0C6B0A424528F7D90B8 && t.facc == 1 && t.step == 37) = true := by
  decide +kernel
theorem test_pmul4 : got .pmul4
    { mid 37 with p := .holding 0x3FFC9A5A9DD4D0C6B0A424528F7D90B8, z := .holding 0xBFF620FA4678760ACDEDC7134542D7AF, facc := 1 }
    (fun t => t.p == .holding 0xBFF3CF371F036B8CABFB5286A3BFA6A2 && t.facc == 1 && t.step == 38) = true := by
  decide +kernel
theorem test_padd4 : got .padd4
    { mid 38 with p := .holding 0xBFF3CF371F036B8CABFB5286A3BFA6A2, facc := 1 }
    (fun t => t.p == .holding 0xBFFD0073CDC7C0DAE32AFED4A1A8EFEA && t.facc == 1 && t.step == 39) = true := by
  decide +kernel
theorem test_pmul3 : got .pmul3
    { mid 39 with p := .holding 0xBFFD0073CDC7C0DAE32AFED4A1A8EFEA, z := .holding 0xBFF620FA4678760ACDEDC7134542D7AF, facc := 1 }
    (fun t => t.p == .holding 0x3FF4217CFF3004D5DD5B828286E9C193 && t.facc == 1 && t.step == 40) = true := by
  decide +kernel
theorem test_padd3 : got .padd3
    { mid 40 with p := .holding 0x3FF4217CFF3004D5DD5B828286E9C193, facc := 1 }
    (fun t => t.p == .holding 0x3FFD55E613D4ED57C04403169698CA36 && t.facc == 1 && t.step == 41) = true := by
  decide +kernel
theorem test_qmul : got .qmul
    { mid 41 with p := .holding 0x3FFD55E613D4ED57C04403169698CA36, z := .holding 0xBFF620FA4678760ACDEDC7134542D7AF, facc := 1 }
    (fun t => t.p == .holding 0xBFF481F1171CB3DE7FDB3F12526EB5C3 && t.facc == 1 && t.step == 42) = true := by
  decide +kernel
theorem test_ser : got .ser
    { mid 42 with p := .holding 0xBFF481F1171CB3DE7FDB3F12526EB5C3, w := .holding 0x3FED4634133CC044F5ADFD813B8EC788, facc := 1 }
    (fun t => t.y == .holding 0xBFE2EBC78567B9F733D88A3D376895B8 && t.facc == 1 && t.step == 43) = true := by
  decide +kernel
theorem test_hw : got .hw
    { mid 43 with w := .holding 0x3FED4634133CC044F5ADFD813B8EC788, facc := 1 }
    (fun t => t.tmp == .holding 0x3FEC4634133CC044F5ADFD813B8EC788 && t.facc == 1 && t.step == 44) = true := by
  decide +kernel
theorem test_acc1 : got .acc1
    { mid 44 with y := .holding 0xBFE2EBC78567B9F733D88A3D376895B8, tmp := .holding 0x3FEC4634133CC044F5ADFD813B8EC788, facc := 1 }
    (fun t => t.y == .holding 0xBFEC46AF051E1A33737AF3A3CADCA1AD && t.facc == 1 && t.step == 45) = true := by
  decide +kernel
theorem test_ecvt : got .ecvt
    { mid 45 with e := .holding 0, facc := 1 }
    (fun t => t.ef == .holding 0x00000000000000000000000000000000 && t.facc == 1 && t.step == 46) = true := by
  decide +kernel
theorem test_eb : got .eb
    { mid 46 with ef := .holding 0x00000000000000000000000000000000, facc := 1 }
    (fun t => t.tmp == .holding 0x00000000000000000000000000000000 && t.facc == 1 && t.step == 47) = true := by
  decide +kernel
theorem test_acc2 : got .acc2
    { mid 47 with y := .holding 0xBFEC46AF051E1A33737AF3A3CADCA1AD, tmp := .holding 0x00000000000000000000000000000000, facc := 1 }
    (fun t => t.y == .holding 0xBFEC46AF051E1A33737AF3A3CADCA1AD && t.facc == 1 && t.step == 48) = true := by
  decide +kernel
theorem test_acc3 : got .acc3
    { mid 48 with y := .holding 0xBFEC46AF051E1A33737AF3A3CADCA1AD, z := .holding 0xBFF620FA4678760ACDEDC7134542D7AF, facc := 1 }
    (fun t => t.y == .holding 0xBFF6214BF239BD915ACAA5D02E358ED7 && t.facc == 1 && t.step == 49) = true := by
  decide +kernel
theorem test_lut : got .lut
    { mid 49 with k := .holding 37, facc := 1 }
    (fun t => t.tmp == .holding 0xBFF00157588DE7128CCC5A82F9DA00F5 && t.facc == 1 && t.step == 50) = true := by
  decide +kernel
theorem test_acc4 : got .acc4
    { mid 50 with y := .holding 0xBFF6214BF239BD915ACAA5D02E358ED7, tmp := .holding 0xBFF00157588DE7128CCC5A82F9DA00F5, facc := 1 }
    (fun t => t.y == .holding 0xBFF625514F9BF52DA4FDD73A3A1CF6DB && t.facc == 1 && t.step == 51) = true := by
  decide +kernel
theorem test_tm1 : got .tm1
    { mid 51 with t := .holding 0x3FFEFC00000000000000000000000000, facc := 1 }
    (fun t => t.tmp == .holding 0xBFF80000000000000000000000000000 && t.facc == 1 && t.step == 52) = true := by
  decide +kernel
theorem test_acc5 : got .acc5
    { mid 52 with y := .holding 0xBFF625514F9BF52DA4FDD73A3A1CF6DB, tmp := .holding 0xBFF80000000000000000000000000000, facc := 1 }
    (fun t => t.y == .holding 0xBFF8495453E6FD4B693F75CE8E873DB7 && t.facc == 1 && t.step == 53) = true := by
  decide +kernel
theorem test_ea : got .ea
    { mid 53 with ef := .holding 0x00000000000000000000000000000000, facc := 1 }
    (fun t => t.tmp == .holding 0x00000000000000000000000000000000 && t.facc == 1 && t.step == 54) = true := by
  decide +kernel
theorem test_acc6 : got .acc6
    { mid 54 with y := .holding 0xBFF8495453E6FD4B693F75CE8E873DB7, tmp := .holding 0x00000000000000000000000000000000, facc := 1 }
    (fun t => t.y == .holding 0xBFF8495453E6FD4B693F75CE8E873DB7 && t.facc == 1 && t.step == 55) = true := by
  decide +kernel

/-! Corner cases of single steps: vectors V58 to V146 and the corner cases of the rules -/

/-- V74: -0 is `ZERO`, not `NEG`. -/
theorem test_classify_minus_zero : got .classify
    { mid 2 with sgn := .holding 1, bexp := .holding 0, frac := .holding 0 }
    (fun t => t.cls == .holding .zero && t.step == 3) = true := by decide
/-- V71: the subnormal `3 * 2^-16494`. -/
theorem test_norm_subnormal : got .norm { mid 7 with bexp := .holding 0, frac := .holding 3 }
    (fun t => t.e0 == .holding (BitVec.ofInt 16 (-16493)) &&
      t.sig == .holding 0x18000000000000000000000000000 && t.step == 8) = true := by decide +kernel
/-- V98: the largest tier-A significand. -/
theorem test_index_last_of_tier_A : got .index
    { mid 8 with e0 := .holding 0, sig := .holding 0x167FFFFFFFFFFFFFFFFFFFFFFFFFF }
    (fun t => t.m17 == .holding 0x167FF && t.tierb == .holding false && t.j == .holding 52 &&
      t.k == .holding 90 && t.e == .holding 0 && t.step == 9) = true := by decide +kernel
/-- V104: tier B with `J = 64` carries into the exponent field. -/
theorem test_tbuild_carry : got .tbuild
    { mid 9 with tierb := .holding true, j := .holding 64, sig := .holding 0x1FFFFFFFFFFFFFFFFFFFFFFFFFFFF }
    (fun t => t.t == .holding 0x3FFF0000000000000000000000000000 &&
      t.u == .holding 0x3FFEFFFFFFFFFFFFFFFFFFFFFFFFFFFF && t.step == 10) = true := by decide +kernel
/-- V108: the upper band end is inside. -/
theorem test_band_upper_end : got .band { mid 10 with x := .holding 0x3FFF0200000000000000000000000000 }
    (fun t => t.near1 == .holding true && t.isone == .holding false && t.step == 12) = true := by
  decide +kernel
/-- R192: +0 and no flag. -/
theorem test_spcOne : got .spcOne { mid 11 with y := .holding 5, facc := 0 }
    (fun t => t.y == .holding 0 && t.facc == 0 && t.step == 55) = true := by decide
/-- V108, P3: the band override. -/
theorem test_znear : got .znear
    { mid 12 with x := .holding 0x3FFF0200000000000000000000000000, k := .holding 39, e := .holding 1 }
    (fun t => t.z == .holding 0x3FF80000000000000000000000000000 && t.k == .holding 38 &&
      t.t == .holding 0x3FFF0000000000000000000000000000 && t.e == .holding 0 && t.facc == 0 &&
      t.step == 15) = true := by decide +kernel
/-- V110: just below 1. -/
theorem test_znear_below : got .znear { mid 12 with x := .holding 0x3FFEFFFFFFFFFFFFFFFFFFFFFFFFFFFF }
    (fun t => t.z == .holding 0xBF8E0000000000000000000000000000 && t.facc == 0) = true := by
  decide +kernel
/-- V20, V86. -/
theorem test_spcZero : got .spcZero (mid 3)
    (fun t => t.y == .holding 0xFFFF0000000000000000000000000000 && t.facc == 0b01000 &&
      t.step == 55) = true := by decide +kernel
/-- V91: -infinity. -/
theorem test_spcNeg1_infinity : got .spcNeg1 { mid 4 with x := .holding 0xFFFF0000000000000000000000000000 }
    (fun t => t.tmp == .holding 0x7FFF8000000000000000000000000000 && t.facc == 0b10000 &&
      t.step == 5) = true := by decide +kernel
/-- V93: a signalling NaN with its sign set. -/
theorem test_spcNeg1_signalling : got .spcNeg1 { mid 4 with x := .holding 0xFFFF0000000000000000000000001234 }
    (fun t => t.tmp == .holding 0xFFFF8000000000000000000000001234 && t.facc == 0b10000) = true := by
  decide +kernel
/-- V88: 0 / 0. -/
theorem test_spcNeg2_zero : got .spcNeg2 { mid 5 with tmp := .holding 0 }
    (fun t => t.y == .holding 0x7FFF8000000000000000000000000000 && t.facc == 0b10000 &&
      t.step == 55) = true := by decide +kernel
/-- V92: a quiet NaN propagates with no flag. -/
theorem test_spcNeg2_quiet : got .spcNeg2 { mid 5 with tmp := .holding 0xFFFF8000000000000000000000000055 }
    (fun t => t.y == .holding 0xFFFF8000000000000000000000000055 && t.facc == 0) = true := by
  decide +kernel
/-- V94: +infinity. -/
theorem test_spcInfnan_infinity : got .spcInfnan { mid 6 with x := .holding 0x7FFF0000000000000000000000000000 }
    (fun t => t.y == .holding 0x7FFF0000000000000000000000000000 && t.facc == 0 && t.step == 55) = true := by
  decide +kernel
/-- V96: a signalling NaN. -/
theorem test_spcInfnan_signalling : got .spcInfnan { mid 6 with x := .holding 0x7FFF0000000000000000000000001234 }
    (fun t => t.y == .holding 0x7FFF8000000000000000000000001234 && t.facc == 0b10000) = true := by
  decide +kernel
/-- V124: a zero product with the sign of the old `P`. -/
theorem test_pmul13_zero : got .pmul13
    { mid 19 with p := .holding 0xBFFB2492492492492492492492492492, z := .holding 0 }
    (fun t => t.p == .holding 0x80000000000000000000000000000000 && t.facc == 0) = true := by decide +kernel
/-- V125: -0 plus the coefficient. -/
theorem test_padd13_zero : got .padd13 { mid 20 with p := .holding 0x80000000000000000000000000000000 }
    (fun t => t.p == .holding 0x3FFB3B13B13B13B13B13B13B13B13B14 && t.facc == 0) = true := by decide +kernel
/-- V133. -/
theorem test_ecvt_smallest : got .ecvt { mid 45 with e := .holding (BitVec.ofInt 16 (-16494)) }
    (fun t => t.ef == .holding 0xC00D01B8000000000000000000000000 && t.step == 46) = true := by decide +kernel
/-- V135: inexact. -/
theorem test_eb_smallest : got .eb { mid 46 with ef := .holding 0xC00D01B8000000000000000000000000 }
    (fun t => t.tmp == .holding 0xBFF982103C01644E926B2F4B139C0474 && t.facc == 1 && t.step == 47) = true := by
  decide +kernel
/-- V139: exact. -/
theorem test_ea_smallest : got .ea { mid 53 with ef := .holding 0xC00D01B8000000000000000000000000 }
    (fun t => t.tmp == .holding 0xC00C6545F7E000000000000000000000 && t.facc == 0 && t.step == 54) = true := by
  decide +kernel
/-- V146: the largest index the sequencer produces. -/
theorem test_lut_largest : got .lut { mid 49 with k := .holding 90 }
    (fun t => t.tmp == .holding 0xBFFB0B909029FD8D6BDC9C7C23801EEA && t.step == 50) = true := by decide +kernel
/-- R241, example: the last accumulation of `LN 10.0`. -/
theorem test_acc6_ten : got .acc6
    { mid 54 with
      y := .holding 0x3FFCC901BBB5551582DD4ADAC5705A61, tmp := .holding 0x40000A2B000000000000000000000000 }
    (fun t => t.y == .holding 0x400026BB1BBB5551582DD4ADAC5705A6 && t.facc == 1 && t.step == 55) = true := by
  decide +kernel

/-! The sequencer, the handshake, reset, and the stops: V147 to V155 -/

/-- V149: flags are per operation. -/
theorem test_idle_accepts : stepped
    { idle with facc := 0b01000, inputs := [port true 0x40000000000000000000000000000000 false] }
    (fun t => t.x == .holding 0x40000000000000000000000000000000 && t.facc == 0 && t.step == 1 &&
      !t.reqReady && !t.y.holds) = true := by decide
/-- V148. -/
theorem test_idle_waits : stepped { idle with inputs := [port false 7 true] }
    (fun t => t == { idle with edges := 1 }) = true := by decide
/-- V150: a request at a busy block is ignored. -/
theorem test_busy_ignores_request : stepped { mid 16 with inputs := [port true 7 false] }
    (fun t => t.x == .holding 0 && t.step == 17) = true := by decide
/-- V151. -/
theorem test_done_holds : stepped
    { mid 55 with y := .holding 9, facc := 1, inputs := [port true 7 false] }
    (fun t => t.step == 55 && t.rspValid && t.rspY == 9 && t.rspFlags == 1 && !t.reqReady) = true := by decide
/-- V152. -/
theorem test_done_taken : stepped { mid 55 with inputs := [port false 0 true] }
    (fun t => t.step == 0 && t.reqReady && !t.rspValid) = true := by decide
/-- V154: a reset in the middle of an operation. -/
theorem test_reset_in_flight : stepped
    { mid 14 with facc := 1, inputs := [.edge { rst := true, reqValid := true, reqX := 5, rspReady := true }] }
    (fun t => t == { idle with edges := 1 }) = true := by decide
/-- V155: a reserved code has no step. -/
theorem test_reserved_step :
    (match Machine.step (mid 60) with | .refused (.reservedStep c) => c == 60 | _ => false) = true := by decide
/-- R31: the read of a register that holds no value. -/
theorem test_unheld_read :
    (match exec .zdiv { idle with tmp := .holding 1 } with | .fault (.noValue r) => r == .t | _ => false)
      = true := by decide
/-- Log 21: no content is on the port while `Y` holds no value. -/
theorem test_rsp_y_unheld : ({ idle with step := 55 } : State).rspY = Config.rspYUnspecified 0 := rfl
/-- R52: an index the table does not have. -/
theorem test_rom_index :
    (match exec .lut { mid 49 with k := .holding 92 } with
      | .refused (.romIndex sp i) => sp == .logtbl && i == 92 | _ => false) = true := by decide +kernel
/-- R113: `fle` of a NaN. -/
theorem test_fle_of_nan :
    (match exec .band { mid 10 with x := .holding 0x7FFF8000000000000000000000000000 } with
      | .refused .fleOfNan => true | _ => false) = true := by decide +kernel
/-- A host line offered to a busy block stays offered (R284). -/
theorem test_line_stays_offered : stepped { mid 16 with inputs := [.line 5] }
    (fun t => t.inputs == [.line 5] && t.step == 17) = true := by decide
/-- A placed code runs as the first instruction after reset. -/
theorem test_withFetchWord_uop : stepped (State.reset.withFetchWord 8 0x10)
    (fun t => t.step == 17 && t.edges == 1) = true := by decide
/-- A placed request runs as the first instruction after reset (V157). -/
theorem test_withFetchWord_request : stepped
    (State.reset.withFetchWord 128 0x80000000000000000000000000000000)
    (fun t => t.step == 55 && t.rspY == 0xFFFF0000000000000000000000000000 && t.rspFlags == 0b01000) = true := by
  decide +kernel

/-! Whole operations: V156 to V206, `COEF_REF` -/

/-- Whether `i` on the idle block answers `y` with the flags `f`. -/
def answers (i : Instr) (y : XF) (f : FlagBits) : Bool :=
  got i idle fun t => t.rspValid && t.rspY == y && t.rspFlags == f

/-- V177. -/
theorem test_ln : answers (.ln 0x00000000000000000000000000000001) 0xC00C6546282207802C89D24D65E96274 1 = true := by
  decide +kernel
/-- V157. -/
theorem test_lnZero : answers (.lnZero 1) 0xFFFF0000000000000000000000000000 0b01000 = true := by decide +kernel
/-- V158. -/
theorem test_lnNeg : answers (.lnNeg 0x3FFF0000000000000000000000000000)
    0x7FFF8000000000000000000000000000 0b10000 = true := by decide +kernel
/-- V163. -/
theorem test_lnNeg_signalling : answers (.lnNeg 0x7FFF0000000000000000000000001234)
    0xFFFF8000000000000000000000001234 0b10000 = true := by decide +kernel
/-- V166. -/
theorem test_lnSpecial : answers (.lnSpecial 0x1234) 0x7FFF8000000000000000000000001234 0b10000 = true := by
  decide +kernel
/-- V168. -/
theorem test_lnOne : answers .lnOne 0 0 = true := by decide +kernel
/-- V184. -/
theorem test_lnNear1Below : answers (.lnNear1Below 0x3FFFFFFFFFFFFFFFFFFFFFFFFFF)
    0xBF8E0000000000000000000000000000 1 = true := by decide +kernel
/-- V185. -/
theorem test_lnNear1Above : answers (.lnNear1Above 1) 0x3F8EFFFFFFFFFFFFFFFFFFFFFFFFFFFF 1 = true := by
  decide +kernel
/-- V200. -/
theorem test_lnNear1Top : answers .lnNear1Top 0x3FF7FE02A6B106788FC37690391DC293 1 = true := by decide +kernel
/-- V201. -/
theorem test_lnGen : answers (.lnGen 0x3FFEFAE147AE147AE147AE147AE147AE)
    0xBFF8495453E6FD4B693F75CE8E873DB7 1 = true := by decide +kernel
/-- V189: a general operand with no flag at all. -/
theorem test_lnGen_exact : answers (.lnGen 0x3FFE7400000000000000000000000000)
    0xBFFD4718DC271C41B063ED305315BBBB 0 = true := by decide +kernel

/-! The primitives: V2 to V38 -/

/-- V2, V3, V4: a tie, just above it, and a tie with an odd significand. -/
theorem test_fadd_ties :
    FP.fadd 0 0x3FFF0000000000000000000000000000 0x3F8E0000000000000000000000000000
      = ⟨0x3FFF0000000000000000000000000000, 1⟩ ∧
    FP.fadd 0 0x3FFF0000000000000000000000000000 0x3F8E0000000000000000000000000001
      = ⟨0x3FFF0000000000000000000000000001, 1⟩ ∧
    FP.fadd 0 0x3FFF0000000000000000000000000001 0x3F8E0000000000000000000000000000
      = ⟨0x3FFF0000000000000000000000000002, 1⟩ := by decide +kernel
/-- V14, V29, V30: overflow, underflow, and an exact subnormal. -/
theorem test_range_ends :
    FP.fadd 0 0x7FFEFFFFFFFFFFFFFFFFFFFFFFFFFFFF 0x7FFEFFFFFFFFFFFFFFFFFFFFFFFFFFFF
      = ⟨0x7FFF0000000000000000000000000000, 0b00101⟩ ∧
    FP.fmul 0 0x00000000000000000000000000000001 0x3FFE0000000000000000000000000000 = ⟨0, 0b00011⟩ ∧
    FP.fmul 0 0x00010000000000000000000000000000 0x3FFE0000000000000000000000000000
      = ⟨0x00008000000000000000000000000000, 0⟩ := by decide +kernel
/-- V34: 1/3. -/
theorem test_fdiv_third :
    FP.fdiv 0 0x3FFF0000000000000000000000000000 0x40008000000000000000000000000000
      = ⟨0x3FFD5555555555555555555555555555, 1⟩ := by decide +kernel
/-- V53, V56, V57. -/
theorem test_fle : FP.fle 0 0x80000000000000000000000000000000 = some true ∧
    FP.fle 0x3FFEFBFFFFFFFFFFFFFFFFFFFFFFFFFF 0x3FFEFC00000000000000000000000000 = some true ∧
    FP.fle 0x3FFF0200000000000000000000000001 0x3FFF0200000000000000000000000000 = some false := by decide

/-! Witnesses: concrete states and operands that meet the hypotheses of the obligations, clause by clause
and at the ends of the ranges. Each is named after its obligation. -/

/-- 1.0. -/
abbrev w1 : XF := 0x3FFF0000000000000000000000000000
/-- 2.0. -/
abbrev w2 : XF := 0x40000000000000000000000000000000
/-- A quiet NaN and a signalling NaN. -/
abbrev qNaN : XF := 0x7FFF8000000000000000000000001234
/-- See `qNaN`. -/
abbrev sNaN : XF := 0xFFFF0000000000000000000000001234
/-- Plus infinity, minus infinity, -0. -/
abbrev pInf : XF := 0x7FFF0000000000000000000000000000
/-- See `pInf`. -/
abbrev mInf : XF := 0xFFFF0000000000000000000000000000
/-- See `pInf`. -/
abbrev mZero : XF := 0x80000000000000000000000000000000
/-- The ends of the range of a residual: `2^-7`, `-2^-114`. -/
abbrev zTop : XF := 0x3FF80000000000000000000000000000
/-- See `zTop`. -/
abbrev zLow : XF := 0xBF8D0000000000000000000000000000
/-- An edge of reset, and the edges of a run without one. -/
abbrev resetPort : PortIn := { rst := true, reqValid := true, reqX := 5, rspReady := true }
/-- See `resetPort`. -/
abbrev busyPort : PortIn := { rst := false, reqValid := true, reqX := 5, rspReady := false }

theorem witness_DecodeInvertsEncode :
    (Instr.lnGen w2).wellFormed = true ∧ (∀ x, Instr.lnGen w2 ≠ .ln x) ∧
    (Instr.lnNear1Above 1).wellFormed = true ∧ Instr.acc6.wellFormed = true := by
  refine ⟨by decide, fun _ => by simp, by decide, by decide⟩

theorem witness_EncodeInvertsDecode :
    decode (.uop 14) = .ok .zdiv ∧ decode (.req 0x80000000000000000000000000000005) = .ok (.lnNeg 5) := by
  decide

theorem witness_ReservedCodesHaveNoStep :
    (56 ≤ (mid 56).step.toNat ∧ (mid 56).pins.rst = false) ∧
    (56 ≤ (mid 63).step.toNat ∧ (mid 63).pins.rst = false) := by decide

/-- A line at the idle block, a line at a busy block, and an edge. -/
theorem witness_StepRunsTheDecodedInstruction :
    (({ idle with inputs := [.line w2] } : State).pins.rst = false ∧
      ({ idle with inputs := [.line w2] } : State).now = .line w2 ∧ idle.step = 0 ∧
      decode (.req w2) = .ok (.lnGen w2)) ∧
    (({ mid 14 with inputs := [.line w2] } : State).pins.rst = false ∧ (mid 14).step ≠ 0 ∧
      decode (.uop (mid 14).step) = .ok .zdiv) ∧
    ((mid 14).pins.rst = false ∧ (mid 14).now = .edge .quiet) := by decide

theorem witness_ResetEdgeAbandonsEverything :
    ({ mid 14 with inputs := [.edge resetPort] } : State).pins.rst = true ∧
    (({ mid 14 with inputs := [.edge resetPort] } : State).resetEdge.advanceFrom
      { mid 14 with inputs := [.edge resetPort] }).pins.reqValid = false := by decide

theorem coefAllowed_iff (n : Nat) (c : XF) : coefAllowed n c ↔ (c.isNormal ∧ 1 / 16 ≤ |FP.val c| ∧
    |FP.val c| ≤ 1 / 2 ∧ (n % 2 = 1 → 0 < FP.val c) ∧ (n % 2 = 0 → FP.val c < 0)) := Iff.rfl

/-- The ends 1/16 and 1/2 of the allowed coefficients, and a quiet NaN. -/
theorem witness_OpenParametersAreExactlyTheAllowed :
    coefAllowed 3 0x3FFB0000000000000000000000000000 ∧
    coefAllowed 14 0xBFFE0000000000000000000000000000 ∧ qNaN.isQuietNaN = true := by
  simp only [coefAllowed_iff]; decide +kernel

/-- The reference coefficients are allowed. -/
theorem refParams_allowed : refParams.Allowed := by
  refine ⟨?_, by decide⟩
  simp only [coefAllowed_iff]
  decide +kernel

theorem inv_of_checks {s : State} (h1 : s.step.toNat ≤ 55) (h2 : ∀ r ∈ liveAt s.step, s.holdsReg r = true)
    (h3 : s.step = 2 ∨ s.step = 7 → s.sgn.value = s.x.value.sign ∧ s.bexp.value = s.x.value.bexp ∧
      s.frac.value = s.x.value.frac)
    (h4 : 7 ≤ s.step.toNat ∧ s.step.toNat ≤ 10 → posFinite s.x.value = true)
    (h5 : s.step = 8 → 2 ^ 112 ≤ s.sig.value.toNat)
    (h6 : 9 ≤ s.step.toNat ∧ s.step.toNat ≤ 49 → s.step ≠ 11 → s.step ≠ 12 → s.k.value.toNat ≤ 90) :
    s.Inv := ⟨h1, h2, h3, h4, h5, h6⟩

/-- Idle, in the middle of the reduction, at the table read with the largest index, and at the end. -/
theorem witness_EverySoundStateStepsToASoundState :
    idle.Inv ∧
    State.Inv { mid 8 with x := .holding w1, sig := .holding (2 ^ 112) } ∧
    State.Inv { mid 49 with k := .holding 90 } ∧ (mid 55).Inv := by
  refine ⟨inv_of_checks ?_ ?_ ?_ ?_ ?_ ?_, inv_of_checks ?_ ?_ ?_ ?_ ?_ ?_,
    inv_of_checks ?_ ?_ ?_ ?_ ?_ ?_, inv_of_checks ?_ ?_ ?_ ?_ ?_ ?_⟩ <;> decide +kernel

theorem witness_UnheldReadsFaultAndNeverHappen :
    (Reg.z ∈ readsOf .sqr ∧ idle.holdsReg .z = false) ∧
    (∀ r ∈ readsOf .acc3, (mid 48).holdsReg r = true) ∧
    Reachable { State.reset with inputs := [.edge busyPort] } :=
  ⟨by decide, by decide, .reset _⟩

theorem witness_ParametersNeverChange : ∃ t, Machine.step (mid 16) = .next t := ⟨_, rfl⟩

/-- Below the overflow bound with a tie, at the bound, and a negative real. -/
theorem witness_RoundGivesTheNearestEncoding :
    ((0 : ℚ) < 1 + 2 ^ (-113 : ℤ) ∧ (1 : ℚ) + 2 ^ (-113 : ℤ) < 2 ^ (16384 : ℤ) - 2 ^ (16270 : ℤ) ∧
      XF.isFinite (w1 + 1) = true ∧ (w1 + 1).sign = 0 ∧
      w1 + 1 ≠ (FP.round 0 (1 + 2 ^ (-113 : ℤ))).value ∧
      |FP.val (w1 + 1) - signed 0 (1 + 2 ^ (-113 : ℤ))| =
        |FP.val (FP.round 0 (1 + 2 ^ (-113 : ℤ))).value - signed 0 (1 + 2 ^ (-113 : ℤ))|) ∧
    ((0 : ℚ) < 2 ^ (16384 : ℤ) - 2 ^ (16270 : ℤ)) ∧ (-1 : ℚ) ≠ 0 := by decide +kernel

/-- The ends of the finite range. -/
theorem witness_RoundingARepresentableValueIsExact :
    (XF.isFinite 1 = true ∧ XF.isZero 1 = false) ∧
    (XF.isFinite 0xFFFEFFFFFFFFFFFFFFFFFFFFFFFFFFFF = true ∧
      XF.isZero 0xFFFEFFFFFFFFFFFFFFFFFFFFFFFFFFFF = false) := by decide

theorem witness_FleOrdersByValue :
    (w1.isFinite = true ∧ mZero.isFinite = true) ∧ (mInf.isInf = true ∧ mInf.sign = 1 ∧ pInf.isNaN = false) ∧
    (pInf.isInf = true ∧ pInf.sign = 0 ∧ mInf.isNaN = false) ∧ qNaN.isNaN = true ∧
    (posFinite 1 = true ∧ posFinite 0x7FFEFFFFFFFFFFFFFFFFFFFFFFFFFFFF = true) := by decide

theorem witness_NanOperandsPropagate : sNaN.isNaN = true ∧ qNaN.isNaN = true ∧ w1.isNaN = false := by decide

theorem witness_SubtractingAnOperandFromItself :
    qNaN.isNaN = true ∧ w1.isNaN = false ∧ mZero.isFinite = true ∧ mInf.isInf = true ∧
    qNaN.isQuietNaN = true ∧ sNaN.isSignallingNaN = true := by decide

theorem witness_AddCommutesAndZeroIsNeutral :
    (w1.isNaN = false ∧ mInf.isNaN = false) ∧ (XF.isFinite 0 = true ∧ (0 : XF) ≠ XF.zero 1) := by decide

theorem witness_IntegerConversionIsExact : (0x8000 : BitVec 16) ≠ 0 ∧ (0x7FFF : BitVec 16) ≠ 0 := by decide

theorem witness_DecompSplitsTheOperand :
    ({ mid 1 with x := .holding sNaN } : State).x = .holding sNaN := rfl

/-- The largest finite operand and the smallest subnormal. -/
theorem witness_NormGivesTheNormalisedSignificand :
    (posFinite 0x7FFEFFFFFFFFFFFFFFFFFFFFFFFFFFFF = true ∧
      XF.bexp 0x7FFEFFFFFFFFFFFFFFFFFFFFFFFFFFFF ≠ 0) ∧ (posFinite 1 = true ∧ XF.bexp 1 = 0) ∧
    ({ mid 7 with bexp := .holding 0, frac := .holding 1 } : State).bexp = .holding (XF.bexp 1) ∧
    ({ mid 7 with bexp := .holding 0, frac := .holding 1 } : State).frac = .holding (XF.frac 1) := by decide

theorem witness_ClassifyTestsInOrder :
    ({ mid 2 with sgn := .holding 1 } : State).sgn = .holding mZero.sign ∧
    (mid 2).bexp = .holding mZero.bexp ∧ (mid 2).frac = .holding mZero.frac := by decide

theorem witness_NegativeOperandSteps :
    ({ mid 4 with x := .holding mInf } : State).x = .holding mInf ∧ (mid 5).tmp = .holding 0 ∧
    ({ mid 5 with tmp := .holding qNaN } : State).tmp = .holding qNaN ∧ qNaN.isQuietNaN = true := by decide

theorem witness_InfinityAndNanSteps :
    ({ mid 6 with x := .holding pInf } : State).x = .holding pInf ∧ pInf.isFinite = false ∧
    qNaN.isFinite = false ∧ sNaN.isFinite = false := by decide

/-- `M17` at `0x167FF`, `0x16800` and the two ends. -/
theorem witness_IndexChoosesTierAndGridPoint :
    ({ mid 8 with sig := .holding (2 ^ 112), e0 := .holding 16383 } : State).sig = .holding (2 ^ 112) ∧
    ({ mid 8 with sig := .holding (2 ^ 112), e0 := .holding 16383 } : State).e0 = .holding 16383 ∧
    (16383 : BitVec 16).toInt ≤ 16383 ∧ 2 ^ 112 ≤ (2 ^ 112 : BitVec 113).toNat ∧
    2 ^ 112 ≤ (0x167FFFFFFFFFFFFFFFFFFFFFFFFFF : BitVec 113).toNat ∧
    2 ^ 112 ≤ (0x16800000000000000000000000000 : BitVec 113).toNat ∧
    2 ^ 112 ≤ (0x1FFFFFFFFFFFFFFFFFFFFFFFFFFFF : BitVec 113).toNat := by decide +kernel

theorem witness_TbuildAssemblesBitPatterns :
    (mid 9).tierb = .holding false ∧ (mid 9).j = .holding 0 ∧ (mid 9).sig = .holding 0 ∧
    ({ mid 9 with tierb := .holding true, j := .holding 64 } : State).tierb = .holding true ∧
    ({ mid 9 with tierb := .holding true, j := .holding 64 } : State).j = .holding 64 := by decide

theorem witness_ReductionReconstructsTheOperand :
    posFinite 1 = true ∧
    ({ mid 7 with bexp := .holding 0, frac := .holding 1 } : State).bexp = .holding (XF.bexp 1) ∧
    ({ mid 7 with bexp := .holding 0, frac := .holding 1 } : State).frac = .holding (XF.frac 1) := by decide

/-- 1.0, both ends of the band, the next encodings outside, the infinities, and a NaN. -/
theorem witness_BandTestsTheOriginalOperand :
    ({ mid 10 with x := .holding w1 } : State).x = .holding w1 ∧ w1.isFinite = true ∧
    XF.isFinite 0x3FFEFC00000000000000000000000000 = true ∧
    XF.isFinite 0x3FFEFBFFFFFFFFFFFFFFFFFFFFFFFFFF = true ∧
    XF.isFinite 0x3FFF0200000000000000000000000000 = true ∧
    XF.isFinite 0x3FFF0200000000000000000000000001 = true ∧ pInf.isInf = true ∧ mInf.isInf = true ∧
    qNaN.isNaN = true := by decide

/-- Both ends of the band. -/
theorem witness_ZnearIsExact :
    ({ mid 12 with x := .holding constBandLo } : State).x = .holding constBandLo ∧
    constBandLo.isFinite = true ∧ 127 / 128 ≤ FP.val constBandLo ∧ FP.val constBandLo ≤ 129 / 128 ∧
    constBandHi.isFinite = true ∧ 127 / 128 ≤ FP.val constBandHi ∧ FP.val constBandHi ≤ 129 / 128 ∧
    FP.val constBandHi ≠ 1 := by decide +kernel

/-- The lower end of the significands with its grid point, `k = 0`; and 1.0 with `k = 38`. -/
theorem witness_ZsubIsExact :
    ({ mid 13 with u := .holding 0x3FFE6800000000000000000000000000
                   t := .holding 0x3FFE6800000000000000000000000000 } : State).u =
      .holding 0x3FFE6800000000000000000000000000 ∧
    FP.val 0x3FFE6800000000000000000000000000 = ((0 : ℕ) + 90) / 128 ∧
    (703125 : ℚ) / 1000000 ≤ FP.val 0x3FFE6800000000000000000000000000 ∧
    FP.val 0x3FFE6800000000000000000000000000 < 140625 / 100000 ∧
    FP.val w1 = ((38 : ℕ) + 90) / 128 ∧ (703125 : ℚ) / 1000000 ≤ FP.val w1 ∧
    FP.val w1 < 140625 / 100000 ∧ (-1 / 256 : ℚ) ≤ FP.val w1 - FP.val w1 ∧
    FP.val w1 - FP.val w1 < 1 / 256 := by decide +kernel

/-- +0, and the two ends `2^-113` and `1/256` of the difference, over `t = 1`. -/
theorem witness_ZdivRoundsTheQuotient :
    ({ mid 14 with t := .holding w1 } : State).tmp = .holding 0 ∧
    ({ mid 14 with t := .holding w1 } : State).t = .holding w1 ∧ FP.val w1 = ((38 : ℕ) + 90) / 128 ∧
    |FP.val 0| ≤ 1 / 256 ∧
    (2 ^ (-113 : ℤ) ≤ |FP.val 0xBF8E0000000000000000000000000000| ∧
      |FP.val 0xBF8E0000000000000000000000000000| ≤ 1 / 256) ∧
    (2 ^ (-113 : ℤ) ≤ |FP.val 0xBFF70000000000000000000000000000| ∧
      |FP.val 0xBFF70000000000000000000000000000| ≤ 1 / 256) := by decide +kernel

/-- The ends 0 and 91 of the table, the anchor, and the first index outside. -/
theorem witness_LutReadsTheTable :
    ({ mid 49 with k := .holding 91 } : State).k = .holding 91 ∧ (logtblRom[91]?).isSome = true ∧
    (logtblRom[0]?).isSome = true ∧ (38 : BitVec 7).toNat ≤ 91 ∧ 92 ≤ (92 : BitVec 7).toNat := by decide

theorem witness_LogTableIsTheRoundedFormula : (0 : ℕ) < 92 ∧ (91 : ℕ) < 92 ∧ (91 : ℕ) ≠ 38 := by decide

theorem witness_SplitConstantSumsToLn2 :
    (-16494 ≤ (BitVec.ofInt 16 (-16494)).toInt ∧ (BitVec.ofInt 16 (-16494)).toInt ≤ 16494) ∧
    (-16494 ≤ (BitVec.ofInt 16 16494).toInt ∧ (BitVec.ofInt 16 16494).toInt ≤ 16494) := by decide

theorem witness_ConstantsAndRomRanges : (92 : ℕ) ≤ 92 ∧ (13 : ℕ) ≤ 13 ∧ (8 : ℕ) ≤ 8 ∧ (91 : ℕ) < 92 ∧
    (12 : ℕ) < 13 := by decide

/-- The two ends of the residual, and zero. -/
theorem witness_SqrRoundsTheSquare :
    ({ mid 15 with z := .holding zTop } : State).z = .holding zTop ∧ zTop.isFinite = true ∧
    zLow.isFinite = true ∧ |FP.val zTop| ≤ 2 ^ (-7 : ℤ) ∧ 2 ^ (-114 : ℤ) ≤ |FP.val zTop| ∧
    |FP.val zLow| ≤ 2 ^ (-7 : ℤ) ∧ 2 ^ (-114 : ℤ) ≤ |FP.val zLow| ∧ FP.val 0 = 0 := by decide +kernel

/-- `P` at 1/32 and at 1/2, the residual at its ends and at zero. -/
theorem witness_HornerMultiply :
    (14, Instr.pmul14) ∈ pmulRows ∧ (3, Instr.pmul3) ∈ pmulRows ∧
    ({ mid 17 with p := .holding 0x3FFA0000000000000000000000000000, z := .holding zLow } : State).p =
      .holding 0x3FFA0000000000000000000000000000 ∧
    (1 / 32 ≤ |FP.val 0x3FFA0000000000000000000000000000| ∧
      |FP.val 0x3FFA0000000000000000000000000000| ≤ 51 / 100) ∧
    (1 / 32 ≤ |FP.val constMhalf| ∧ |FP.val constMhalf| ≤ 51 / 100) ∧
    2 ^ (-114 : ℤ) ≤ |FP.val zLow| ∧ |FP.val zLow| ≤ 2 ^ (-7 : ℤ) ∧ |FP.val zTop| ≤ 2 ^ (-7 : ℤ) ∧
    FP.val 0 = 0 ∧ FP.val zTop ≠ 0 := by decide +kernel

/-- `P` at -0 and at `2^-8`, with allowed coefficients. -/
theorem witness_HornerAdd :
    (14, Instr.padd14) ∈ paddRows ∧ (3, Instr.padd3) ∈ paddRows ∧ (mid 18).params.Allowed ∧
    ({ mid 18 with p := .holding mZero } : State).p = .holding mZero ∧ mZero.isFinite = true ∧
    |FP.val mZero| ≤ 51 / 12800 ∧ FP.val mZero = 0 ∧
    |FP.val 0x3FF70000000000000000000000000000| ≤ 51 / 12800 :=
  ⟨by decide, by decide, refParams_allowed, rfl, by decide, by decide +kernel, by decide +kernel,
    by decide +kernel⟩

theorem witness_HornerLoopKeepsItsBounds :
    (mid 16).params.Allowed ∧ ({ mid 16 with z := .holding zTop } : State).z = .holding zTop ∧
    zTop.isFinite = true ∧ |FP.val zTop| ≤ 2 ^ (-7 : ℤ) ∧ 2 ^ (-114 : ℤ) ≤ |FP.val zTop| :=
  ⟨refParams_allowed, rfl, by decide, by decide +kernel, by decide +kernel⟩

theorem witness_ZeroResidualGivesZeroSeries : (mid 15).params.Allowed ∧ (mid 15).z = .holding 0 :=
  ⟨refParams_allowed, rfl⟩

/-- +0, and the least `W`. -/
theorem witness_HwHalvesExactly :
    (mid 43).w = .holding 0 ∧
    ({ mid 43 with w := .holding 0x3F190000000000000000000000000000 } : State).w =
      .holding 0x3F190000000000000000000000000000 ∧
    XF.sign 0x3F190000000000000000000000000000 = 0 ∧
    XF.isFinite 0x3F190000000000000000000000000000 = true ∧
    2 ^ (-230 : ℤ) ≤ FP.val 0x3F190000000000000000000000000000 := by decide +kernel

/-- `Y` at +0 and, for `ACC1`, at -0, over zero addends in `TMP` and `Z`. -/
theorem witness_AccumulationsRoundIntoY :
    (mid 44).y = .holding 0 ∧ (mid 44).tmp = .holding 0 ∧ (mid 48).z = .holding 0 ∧
    XF.isFinite 0 = true ∧ (0 : XF) ≠ XF.zero 1 ∧
    ({ mid 44 with y := .holding mZero } : State).y = .holding mZero ∧ mZero.isFinite = true := by decide

theorem witness_EcvtIsExact : (mid 45).e = .holding 0 := rfl

/-- Both ends of the exponent adjustment, and zero. -/
theorem witness_ExponentTerms :
    (mid 46).ef = .holding (FP.i2f 0) ∧
    ({ mid 46 with ef := .holding 0xC00D01B8000000000000000000000000 } : State).ef =
      .holding (FP.i2f (BitVec.ofInt 16 (-16494))) ∧ -16494 ≤ (BitVec.ofInt 16 (-16494)).toInt ∧
    ({ mid 46 with ef := .holding 0x400D0000000000000000000000000000 } : State).ef =
      .holding (FP.i2f (BitVec.ofInt 16 16384)) ∧ (BitVec.ofInt 16 16384).toInt ≤ 16384 := by decide +kernel

/-- The grid points of `k = 0`, `k = 38` and `k = 91`. -/
theorem witness_Tm1IsExact :
    ({ mid 51 with t := .holding w1 } : State).t = .holding w1 ∧ w1.isFinite = true ∧
    FP.val w1 = ((38 : ℕ) + 90) / 128 ∧
    FP.val 0x3FFE6800000000000000000000000000 = ((0 : ℕ) + 90) / 128 ∧
    FP.val 0x3FFF6A00000000000000000000000000 = ((91 : ℕ) + 90) / 128 := by decide +kernel

/-- In the reduced block every register holds a value, so each transfer's registers do. -/
theorem witness_FloatingPointTransfers :
    (mid 4).x = .holding 0 ∧ (mid 5).tmp = .holding 0 ∧ (mid 13).u = .holding 0 ∧ (mid 13).t = .holding 0 ∧
    (mid 15).z = .holding 0 ∧ (mid 41).p = .holding 0 ∧ (mid 42).w = .holding 0 ∧
    (mid 46).ef = .holding 0 := by decide

theorem witness_AccumulatedResultAsOneExpression :
    (mid 15).z = .holding 0 ∧ (mid 15).t = .holding 0 ∧ (mid 15).k = .holding 0 ∧ (mid 15).e = .holding 0 ∧
    logtblRom[(0 : BitVec 7).toNat]? = some 0xBFFAC5641F4E350A0D32756EBA00BC34 := by decide

theorem witness_IdleAcceptsOrWaits :
    ({ idle with inputs := [port true w2 false] } : State).pins.reqValid = true ∧
    ({ idle with inputs := [port false w2 false] } : State).pins.reqValid = false := by decide

theorem witness_DoneHoldsTheResponse :
    (mid 55).y.holds = true ∧ (mid 55).step = 55 ∧ (mid 55).pins.rst = false ∧
    (mid 55).pins.rspReady = false := by decide

theorem witness_BusyBlockIgnoresRequests :
    (mid 23).step ≠ 0 ∧ busyPort.rst = PortIn.quiet.rst ∧ busyPort.rspReady = PortIn.quiet.rspReady ∧
    busyPort.reqX ≠ PortIn.quiet.reqX := by decide

theorem witness_EveryRequestIsAnswered :
    encode (.ln w2) = .req w2 ∧ encode (.lnZero 1) = .req mZero ∧ encode (.lnNeg 5) =
      .req 0x80000000000000000000000000000005 ∧ encode .lnOne = .req w1 ∧ idle.step = 0 ∧
    (mid 55).step ≠ 0 := by decide

/-- A signalling NaN, a quiet NaN, minus infinity and a finite operand of `LN.NEG`; both kinds of
`LN.SPECIAL`. -/
theorem witness_SpecialOperandResults :
    idle.step = 0 ∧ idle.params.defaultNan.isQuietNaN = true ∧
    (requestWord (.lnNeg 0x7FFF0000000000000000000000000001)).isNaN = true ∧
    (requestWord (.lnNeg 0x7FFF8000000000000000000000000000)).isQuietNaN = true ∧
    (requestWord (.lnNeg 0x7FFF0000000000000000000000000000)).isNaN = false ∧
    (requestWord (.lnNeg 1)).isNaN = false ∧ (requestWord (.lnSpecial 0)).isNaN = false ∧
    (requestWord (.lnSpecial 1)).isNaN = true := by decide

/-- The accepting edge with the edges of the shortest path, whatever their other inputs are. -/
theorem witness_SixPathsOfTheSequencer :
    idle.step = 0 ∧ busyPort.rst = false ∧ ({ busyPort with reqX := 0 } : PortIn).reqValid = true ∧
    (∀ q ∈ List.replicate 3 busyPort, q.rst = false) ∧
    (List.replicate 3 busyPort).length = (pathOf ({ busyPort with reqX := 0 } : PortIn).reqX).steps ∧
    4 < (pathOf ({ busyPort with reqX := 0 } : PortIn).reqX).codes.length := by decide

/-- The same with the longest path. -/
theorem witness_TransactionIsTheRunOfItsEdges :
    (mid 0).step = 0 ∧ ({ busyPort with reqX := w2 } : PortIn).reqValid = true ∧
    (∀ q ∈ List.replicate 48 busyPort, q.rst = false) ∧
    (List.replicate 48 busyPort).length = (pathOf ({ busyPort with reqX := w2 } : PortIn).reqX).steps := by
  decide

theorem witness_ResponseDependsOnOperandAlone :
    idle.step = 0 ∧ (mid 0).step = 0 ∧ idle.params = (mid 0).params ∧ idle ≠ mid 0 := by decide

theorem witness_ResponseFlagsPerClass :
    idle.step = 0 ∧ idle.params.Allowed ∧ pathOf 0 = .zero ∧ pathOf sNaN = .neg ∧ pathOf pInf = .special ∧
    pathOf w1 = .one ∧ pathOf (w1 + 1) = .near1 ∧ pathOf w2 = .gen :=
  ⟨rfl, refParams_allowed, by decide, by decide, by decide, by decide, by decide, by decide⟩

theorem witness_LnIsOneRoundedExpression :
    idle.step = 0 ∧ pathOf (w1 + 1) = .near1 ∧ pathOf bandHiWord = .near1 ∧ pathOf (bandHiWord + 1) = .gen ∧
    pathOf 1 = .gen := by decide

end Sys2Proof.Tests
end

section
/-! PROOFS. The value of an encoding as an integer significand times a power of two (R102), and when that
makes an encoding the nearest one to a real number (R104). -/

namespace Sys2Proof

@[simp] theorem signed_zero_bit (r : ℚ) : signed 0#1 r = r := if_neg (by decide)
@[simp] theorem signed_one_bit (r : ℚ) : signed 1#1 r = -r := if_pos rfl

/-- The sign of a product is the exclusive or of the signs (R110). -/
theorem signed_mul_signed (s t : BitVec 1) (x y : ℚ) :
    signed s x * signed t y = signed (s ^^^ t) (x * y) := by
  obtain rfl | rfl := BitVec.eq_zero_or_eq_one s <;> obtain rfl | rfl := BitVec.eq_zero_or_eq_one t <;> simp

theorem abs_signed (s : BitVec 1) (x : ℚ) : |signed s x| = |x| := by
  obtain rfl | rfl := BitVec.eq_zero_or_eq_one s <;> simp

namespace XF

/-- The significand of a finite encoding as an integer below `2^113`: the fraction, with the implicit bit
of a normal number (R102). -/
def significand (v : XF) : ℕ := if v.bexp = 0 then v.frac.toNat else 2 ^ 112 + v.frac.toNat

/-- The exponent of the unit in the last place, from -16494 upwards (R102). -/
def ulpExp (v : XF) : ℤ := max (v.bexp.toNat : ℤ) 1 - 16495

theorem significand_lt (v : XF) : v.significand < 2 ^ 113 := by
  have hf := v.frac.isLt
  unfold significand
  split <;> omega

theorem bexp_ne_zero_of_isNormal {v : XF} (h : v.isNormal = true) : v.bexp ≠ 0 := by
  simp only [isNormal, Bool.and_eq_true, bne_iff_ne] at h
  exact h.1

theorem isFinite_of_isNormal {v : XF} (h : v.isNormal = true) : v.isFinite = true := by
  simp only [isNormal, Bool.and_eq_true] at h
  exact h.2

theorem isNaN_of_isFinite {v : XF} (h : v.isFinite = true) : v.isNaN = false := by
  simp_all [isFinite, isNaN]

theorem isInf_of_isFinite {v : XF} (h : v.isFinite = true) : v.isInf = false := by
  simp_all [isFinite, isInf]

end XF

namespace FP

/-- R102 in integers: sign, significand and the unit in the last place. -/
theorem val_eq_signed (v : XF) : val v = signed v.sign (v.significand * 2 ^ v.ulpExp) := by
  have hmag : (if v.bexp = 0 then (2 : ℚ) ^ (-16382 : ℤ) * (v.frac.toNat / 2 ^ 112)
      else (2 : ℚ) ^ ((v.bexp.toNat : ℤ) - 16383) * (1 + v.frac.toNat / 2 ^ 112)) =
      (v.significand : ℚ) * 2 ^ v.ulpExp := by
    unfold XF.significand XF.ulpExp
    split
    case isTrue h =>
      have hexp : max (((0 : BitVec 15).toNat : ℕ) : ℤ) 1 - 16495 = -16382 - (112 : ℕ) := by decide
      rw [h, hexp, zpow_sub₀ two_ne_zero, zpow_natCast]
      ring
    case isFalse h =>
      have hpos : 1 ≤ v.bexp.toNat := Nat.one_le_iff_ne_zero.mpr fun h0 => h (BitVec.eq_of_toNat_eq h0)
      have hexp : max (v.bexp.toNat : ℤ) 1 - 16495 = (v.bexp.toNat : ℤ) - 16383 - (112 : ℕ) := by omega
      rw [hexp, zpow_sub₀ two_ne_zero _ ((112 : ℕ) : ℤ), zpow_natCast]
      push_cast
      ring
  unfold val signed
  simp only [hmag]

theorem abs_val (v : XF) : |val v| = v.significand * 2 ^ v.ulpExp := by
  rw [val_eq_signed, abs_signed]
  exact abs_of_nonneg (by positivity)

theorem signed_sign_abs_val (v : XF) : signed v.sign |val v| = val v := by
  rw [abs_val, ← val_eq_signed]

theorem val_pack (s : BitVec 1) (e : BitVec 15) (f : BitVec 112) :
    val (XF.pack s e f) = signed s (if e = 0 then 2 ^ (-16382 : ℤ) * (f.toNat / 2 ^ 112)
      else 2 ^ ((e.toNat : ℤ) - 16383) * (1 + f.toNat / 2 ^ 112)) := by
  simp [val, signed]

@[simp] theorem val_zero (s : BitVec 1) : val (XF.zero s) = 0 := by
  rw [XF.zero, val_pack]
  obtain rfl | rfl := BitVec.eq_zero_or_eq_one s <;> simp

/-- The value of an encoding is an integer multiple of every power of two up to its last place. -/
theorem exists_val_eq_int_mul (v : XF) {q : ℤ} (hq : q ≤ v.ulpExp) : ∃ a : ℤ, val v = a * 2 ^ q := by
  obtain ⟨d, hd⟩ := Int.le.dest hq
  have hpow : (2 : ℚ) ^ v.ulpExp = 2 ^ d * 2 ^ q := by
    rw [← hd, add_comm, zpow_add₀ two_ne_zero, zpow_natCast]
  rw [val_eq_signed, hpow]
  obtain hs | hs := BitVec.eq_zero_or_eq_one v.sign <;> rw [hs]
  · exact ⟨v.significand * 2 ^ d, by push_cast [signed_zero_bit]; ring⟩
  · exact ⟨-(v.significand * 2 ^ d), by push_cast [signed_one_bit]; ring⟩

/-- The values next to a normal encoding that is no power of two are a unit in the last place away. -/
theorem two_zpow_ulpExp_le_abs_val_sub {v w : XF} (hv : v.isNormal = true) (hf : v.frac ≠ 0)
    (hne : val w ≠ val v) : 2 ^ v.ulpExp ≤ |val w - val v| := by
  have hu : (0 : ℚ) < 2 ^ v.ulpExp := by positivity
  obtain hle | hlt := le_or_gt v.ulpExp w.ulpExp
  · obtain ⟨a, ha⟩ := exists_val_eq_int_mul v le_rfl
    obtain ⟨b, hb⟩ := exists_val_eq_int_mul w hle
    have hba : 1 ≤ |b - a| := Int.one_le_abs (sub_ne_zero.mpr fun h => hne (by rw [ha, hb, h]))
    rw [ha, hb, ← sub_mul, abs_mul, abs_of_pos hu]
    exact le_mul_of_one_le_left hu.le (by exact_mod_cast hba)
  · have hfrac : 1 ≤ v.frac.toNat := Nat.one_le_iff_ne_zero.mpr fun h => hf (BitVec.eq_of_toNat_eq h)
    have hv_ge : (2 ^ 112 + 1 : ℚ) ≤ v.significand := by
      rw [XF.significand, if_neg (XF.bexp_ne_zero_of_isNormal hv)]
      exact_mod_cast Nat.add_le_add_left hfrac (2 ^ 112)
    have hw_le : (w.significand : ℚ) ≤ 2 ^ 113 := by exact_mod_cast w.significand_lt.le
    have hpow : (2 : ℚ) ^ w.ulpExp ≤ 2 ^ (v.ulpExp - 1) := zpow_le_zpow_right₀ one_le_two (by omega)
    rw [zpow_sub_one₀ two_ne_zero] at hpow
    calc (2 : ℚ) ^ v.ulpExp
        = (2 ^ 112 + 1) * 2 ^ v.ulpExp - 2 ^ 113 * (2 ^ v.ulpExp * 2⁻¹) := by ring
      _ ≤ |val v| - |val w| := by rw [abs_val, abs_val]; gcongr
      _ ≤ |val w - val v| := by rw [abs_sub_comm]; exact abs_sub_abs_le_abs_sub _ _

/-- A normal encoding that is no power of two is nearest to every real within half a unit in its last
place (R104). -/
theorem nearest_of_abs_val_sub_le {v : XF} {r : ℝ} (hv : v.isNormal = true) (hf : v.frac ≠ 0)
    (h : |(val v : ℝ) - r| ≤ 2 ^ v.ulpExp / 2) : Nearest v r := by
  refine ⟨XF.isFinite_of_isNormal hv, fun w _ => ?_⟩
  obtain heq | hne := eq_or_ne (val w) (val v)
  · rw [heq]
  · have hgap : (2 : ℝ) ^ v.ulpExp ≤ |(val w : ℝ) - val v| := by
      have hq := Rat.cast_le (K := ℝ) |>.mpr (two_zpow_ulpExp_le_abs_val_sub hv hf hne)
      push_cast at hq
      exact hq
    have htri := abs_sub_le (val w : ℝ) r (val v)
    rw [abs_sub_comm r] at htri
    linarith

end FP

end Sys2Proof
end

section
/-! PROOFS. Roundings that are exact: a magnitude on the grid of the format is not changed by `round`
(R104), so products and integers with few significant bits are exact (R110, R112). -/

namespace Sys2Proof.FP

theorem nearestEven_natCast (n : ℕ) : nearestEven n = n := by simp [nearestEven]

/-- `round` on a magnitude that is a whole number `g` of the quanta R104 takes for it. -/
theorem round_of_whole_quanta (s : BitVec 1) {r : ℚ} {g : ℕ} {qe : ℤ}
    (hqe : max (Int.log 2 r) (-16382) = qe) (hr : r = g * 2 ^ (qe - 112)) (hg : g < 2 ^ 113)
    (hmax : qe ≤ 16383) :
    round s r = if g < 2 ^ 112 then ⟨XF.pack s 0 (BitVec.ofNat 112 g), 0⟩
      else ⟨XF.pack s (BitVec.ofInt 15 (qe + 16383)) (BitVec.ofNat 112 g), 0⟩ := by
  have hn : r / 2 ^ (qe - 112) = (g : ℚ) := by
    rw [hr]
    exact mul_div_cancel_right₀ _ (by positivity)
  have hover : ¬ (qe + 16383 ≥ 0x7FFF) := by omega
  simp only [round, hqe, hn, nearestEven_natCast, Nat.floor_natCast, sub_self, ne_eq, not_true,
    if_neg hg.ne, if_neg hover, Flag.when, Flag.none, if_false, false_and, and_false, BitVec.or_self]

/-- The biased exponent of a normal encoding (R102). -/
theorem toNat_biased {qe : ℤ} (hmin : -16382 ≤ qe) (hmax : qe ≤ 16383) :
    ((BitVec.ofInt 15 (qe + 16383)).toNat : ℤ) = qe + 16383 := by
  rw [BitVec.toNat_ofInt]
  omega

/-- The value of a subnormal encoding, or of the zero, from its fraction. -/
theorem val_pack_zero (s : BitVec 1) {g : ℕ} (hg : g < 2 ^ 112) :
    val (XF.pack s 0 (BitVec.ofNat 112 g)) = signed s (g * 2 ^ (-16494 : ℤ)) := by
  have hexp : (-16494 : ℤ) = -16382 - (112 : ℕ) := by norm_num
  rw [val_pack, if_pos rfl, BitVec.toNat_ofNat, Nat.mod_eq_of_lt hg, hexp, zpow_sub₀ two_ne_zero,
    zpow_natCast]
  congr 1
  ring

/-- The value of a normal encoding from its significand and its exponent. -/
theorem val_pack_normal (s : BitVec 1) {g : ℕ} {qe : ℤ} (hg : 2 ^ 112 ≤ g) (hg' : g < 2 ^ 113)
    (hmin : -16382 ≤ qe) (hmax : qe ≤ 16383) :
    val (XF.pack s (BitVec.ofInt 15 (qe + 16383)) (BitVec.ofNat 112 g)) =
      signed s (g * 2 ^ (qe - 112)) := by
  have hbexp := toNat_biased hmin hmax
  have hne : BitVec.ofInt 15 (qe + 16383) ≠ 0 := fun h => by
    rw [h] at hbexp
    change (0 : ℤ) = qe + 16383 at hbexp
    omega
  have hfrac : (BitVec.ofNat 112 g).toNat = g - 2 ^ 112 := by
    rw [BitVec.toNat_ofNat]
    omega
  have hexp : qe - 112 = qe - (112 : ℕ) := rfl
  rw [val_pack, if_neg hne, hbexp, hfrac, Nat.cast_sub hg, add_sub_cancel_right, hexp,
    zpow_sub₀ two_ne_zero, zpow_natCast]
  congr 1
  push_cast
  ring

/-- What an exact rounding gives: no flag, and a finite encoding of the value `q`. -/
structure Exact (r : Result) (q : ℚ) : Prop where
  flags : r.flags = 0
  finite : r.value.isFinite = true
  value : val r.value = q

/-- A magnitude of at most 113 significant bits is a whole number of the quanta R104 takes for it, at
least `2^112` of them unless it is subnormal. -/
theorem exists_whole_quanta {m : ℕ} {q : ℤ} (hpos : 0 < m) (hm : m < 2 ^ 113) (hmin : -16494 ≤ q) :
    ∃ (g : ℕ) (qe : ℤ), max (Int.log 2 ((m : ℚ) * 2 ^ q)) (-16382) = qe ∧
      (m : ℚ) * 2 ^ q = g * 2 ^ (qe - 112) ∧ g < 2 ^ 113 ∧ (g < 2 ^ 112 → qe = -16382) ∧
      (qe ≤ q + 112 ∨ qe = -16382) := by
  obtain ⟨r, hr⟩ : ∃ r : ℚ, r = m * 2 ^ q := ⟨_, rfl⟩
  obtain ⟨qe, hqe⟩ : ∃ qe, max (Int.log 2 r) (-16382) = qe := ⟨_, rfl⟩
  have hr0 : 0 < r := by rw [hr]; positivity
  have hlog : Int.log 2 r < 113 + q := by
    rw [← Int.lt_zpow_iff_log_lt one_lt_two hr0, hr, Nat.cast_two, zpow_add₀ two_ne_zero]
    gcongr
    exact_mod_cast hm
  obtain ⟨d, hd⟩ := Int.le.dest (show qe - 112 ≤ q by omega)
  have hrg : r = (m * 2 ^ d : ℕ) * 2 ^ (qe - 112) := by
    rw [hr, ← hd, zpow_add₀ two_ne_zero, zpow_natCast]
    push_cast
    ring
  have hquantum : (0 : ℚ) < 2 ^ (qe - 112) := by positivity
  have hpow (n : ℕ) : (2 : ℚ) ^ (n + (qe - 112)) = (2 ^ n : ℕ) * 2 ^ (qe - 112) := by
    rw [zpow_add₀ two_ne_zero, zpow_natCast, Nat.cast_pow, Nat.cast_two]
  have hlt (n : ℕ) : m * 2 ^ d < 2 ^ n ↔ Int.log 2 r < n + (qe - 112) := by
    rw [← Int.lt_zpow_iff_log_lt one_lt_two hr0, Nat.cast_two, hpow, hrg,
      mul_lt_mul_iff_left₀ hquantum, Nat.cast_lt]
  rw [← hr]
  exact ⟨m * 2 ^ d, qe, hqe, hrg, (hlt 113).mpr (by omega),
    fun hsub => by have := (hlt 112).mp hsub; omega, by omega⟩

/-- A magnitude with at most 113 significant bits inside the range of the format is rounded to itself
(R104). -/
theorem round_exact (s : BitVec 1) {m : ℕ} {q : ℤ} (hpos : 0 < m) (hm : m < 2 ^ 113)
    (hmin : -16494 ≤ q) (hmax : q ≤ 16271) : Exact (round s (m * 2 ^ q)) (signed s (m * 2 ^ q)) := by
  obtain ⟨g, qe, hqe, hr, hg, hsub, hle⟩ := exists_whole_quanta hpos hm hmin
  have hqe_max : qe ≤ 16383 := by omega
  have hqe_min : -16382 ≤ qe := by omega
  rw [round_of_whole_quanta s hqe hr hg hqe_max]
  obtain hlt | hge := lt_or_ge g (2 ^ 112)
  · rw [if_pos hlt, hr, hsub hlt]
    exact ⟨rfl, by simp [XF.isFinite], val_pack_zero s hlt⟩
  · rw [if_neg hge.not_gt, hr]
    refine ⟨rfl, ?_, val_pack_normal s hge hg hqe_min hqe_max⟩
    have hbexp := toNat_biased hqe_min hqe_max
    have hne : BitVec.ofInt 15 (qe + 16383) ≠ 0x7FFF := fun h => by
      rw [h] at hbexp
      change (32767 : ℤ) = qe + 16383 at hbexp
      omega
    simpa [XF.isFinite] using hne

/-- A 16-bit integer is converted exactly (R112). -/
theorem i2f_exact (n : BitVec 16) : (i2f n).isFinite = true ∧ val (i2f n) = n.toInt := by
  obtain rfl | hn := eq_or_ne n 0
  · exact ⟨rfl, val_zero 0⟩
  have hpos : 0 < n.toInt.natAbs :=
    Int.natAbs_pos.mpr fun h => hn (BitVec.eq_of_toInt_eq (by rw [h]; rfl))
  have hlt : n.toInt.natAbs < 2 ^ 113 := by
    have hle := BitVec.le_toInt n
    have hge := BitVec.toInt_lt (x := n)
    omega
  have hround := round_exact (if n.toInt < 0 then 1 else 0) hpos hlt (q := 0) (by norm_num) (by norm_num)
  rw [zpow_zero, mul_one] at hround
  rw [i2f, if_neg hn]
  refine ⟨hround.finite, hround.value.trans ?_⟩
  rw [Nat.cast_natAbs]
  split
  case isTrue hneg => simp [signed, abs_of_neg hneg]
  case isFalse hneg => simp [signed, abs_of_nonneg (not_lt.mp hneg)]

/-- `fmul` on finite operands: the signed zero, or one rounding of the product (R110). -/
theorem fmul_of_isFinite (dn : XF) {a b : XF} (ha : a.isFinite = true) (hb : b.isFinite = true) :
    fmul dn a b = if |val a * val b| = 0 then ⟨XF.zero (a.sign ^^^ b.sign), 0⟩
      else round (a.sign ^^^ b.sign) |val a * val b| := by
  simp [fmul, XF.isNaN_of_isFinite, XF.isInf_of_isFinite, ha, hb, Flag.none]

/-- A product of finite operands with at most 113 significant bits is exact (R110). -/
theorem fmul_exact (dn : XF) {a b : XF} {m : ℕ} {q : ℤ} (ha : a.isFinite = true) (hb : b.isFinite = true)
    (hprod : |val a * val b| = m * 2 ^ q) (hm : m < 2 ^ 113) (hmin : -16494 ≤ q) (hmax : q ≤ 16271) :
    Exact (fmul dn a b) (val a * val b) := by
  rw [fmul_of_isFinite dn ha hb]
  obtain h0 | hne := eq_or_ne (|val a * val b|) 0
  · rw [if_pos h0, abs_eq_zero.mp h0]
    exact ⟨rfl, by simp [XF.zero, XF.isFinite], val_zero _⟩
  · have hpos : 0 < m := Nat.pos_of_ne_zero fun h => hne (by rw [hprod, h, Nat.cast_zero, zero_mul])
    have hsigned : signed (a.sign ^^^ b.sign) (m * 2 ^ q) = val a * val b := by
      rw [← hprod, abs_mul, ← signed_mul_signed, signed_sign_abs_val, signed_sign_abs_val]
    rw [if_neg hne, hprod, ← hsigned]
    exact round_exact _ hpos hm hmin hmax

end Sys2Proof.FP
end

section
/-! PROOFS. Rational enclosures of the real logarithm, and the check in `ℚ` that an encoding is the nearest
one to `ln t - c` (R55, R57). -/

namespace Sys2Proof.FP

/-- `n` terms of the series `ln t = 2 artanh ((t - 1) / (t + 1))`. -/
def lnPartial (t : ℚ) (n : ℕ) : ℚ :=
  2 * ∑ i ∈ Finset.range n, ((t - 1) / (t + 1)) ^ (2 * i + 1) / (2 * i + 1)

/-- What `n` terms of that series miss at most. -/
def lnTail (t : ℚ) (n : ℕ) : ℚ :=
  2 * (|(t - 1) / (t + 1)| ^ (2 * n + 1) / (1 - ((t - 1) / (t + 1)) ^ 2))

theorem abs_log_sub_lnPartial_le {t : ℚ} (ht : 0 < t) (n : ℕ) :
    |Real.log t - lnPartial t n| ≤ lnTail t n := by
  have ht' : (0 : ℝ) < t := by exact_mod_cast ht
  obtain ⟨x, hx⟩ : ∃ x : ℝ, x = (t - 1) / (t + 1) := ⟨_, rfl⟩
  have hlt : |x| < 1 := by
    rw [hx, abs_div, abs_of_pos (by linarith : (0 : ℝ) < t + 1), div_lt_one (by linarith), abs_lt]
    constructor <;> linarith
  have hquot : (1 + x) / (1 - x) = t := by
    rw [hx]
    field_simp
    ring
  have hbound := Real.sum_range_sub_log_div_le hlt n
  rw [hquot, hx] at hbound
  rw [abs_le] at hbound ⊢
  push_cast [lnPartial, lnTail]
  constructor <;> linarith

/-- The check that `v` is the rounded `ln t - c`: a normal encoding, no power of two, within half a unit
in the last place of the `n`-term sum after allowance for its tail. -/
def certifiesLn (v : XF) (t c : ℚ) (n : ℕ) : Bool :=
  v.isNormal && v.frac != 0 &&
    decide (|val v - (lnPartial t n - c)| + lnTail t n ≤ 2 ^ v.ulpExp / 2)

theorem certifiesLn_iff {v : XF} {t c : ℚ} {n : ℕ} : certifiesLn v t c n = true ↔
    v.isNormal = true ∧ v.frac ≠ 0 ∧
      |val v - (lnPartial t n - c)| + lnTail t n ≤ 2 ^ v.ulpExp / 2 := by
  simp [certifiesLn, and_assoc]

theorem abs_val_sub_log_le {v : XF} {t c : ℚ} {n : ℕ} (ht : 0 < t) (h : certifiesLn v t c n = true) :
    |(val v : ℝ) - (Real.log t - c)| ≤ 2 ^ v.ulpExp / 2 := by
  obtain ⟨-, -, hsum⟩ := certifiesLn_iff.mp h
  have hclose := Rat.cast_le (K := ℝ) |>.mpr hsum
  push_cast at hclose
  have hlog := abs_log_sub_lnPartial_le ht n
  calc |(val v : ℝ) - (Real.log t - c)|
      = |((val v : ℝ) - (lnPartial t n - c)) - (Real.log t - lnPartial t n)| := by ring_nf
    _ ≤ |(val v : ℝ) - (lnPartial t n - c)| + |Real.log t - lnPartial t n| := abs_sub _ _
    _ ≤ 2 ^ v.ulpExp / 2 := by linarith

theorem nearest_of_certifiesLn {v : XF} {t c : ℚ} {n : ℕ} (ht : 0 < t) (h : certifiesLn v t c n = true) :
    Nearest v (Real.log t - c) := by
  obtain ⟨hnormal, hfrac, -⟩ := certifiesLn_iff.mp h
  exact nearest_of_abs_val_sub_le hnormal hfrac (abs_val_sub_log_le ht h)

end Sys2Proof.FP
end

section
/-! PROOFS. The contents of the three ROM spaces (20_memory.md R52 to R58). -/

namespace Sys2Proof.Machine

/-! `CONST`, and the ranges of the spaces -/

theorem const_values :
    FP.val constZero = 0 ∧ FP.val constMhalf = -1 / 2 ∧ FP.val constHalf = 1 / 2 ∧
    FP.val constOne = 1 ∧ FP.val constBandLo = 127 / 128 ∧ FP.val constBandHi = 129 / 128 := by
  decide +kernel

theorem readRom_logtbl_outside (s : State) (k : XF → Result) {i : ℕ} (h : 92 ≤ i) :
    readRom s .logtbl i k = .refused (.romIndex .logtbl i) :=
  readRom_outside (List.getElem?_eq_none (by rwa [logtblRom_length]))

theorem readRom_coef_outside (s : State) (k : XF → Result) {i : ℕ} (h : 13 ≤ i) :
    readRom s .coef i k = .refused (.romIndex .coef i) :=
  readRom_outside (by simpa [romRead] using h)

theorem readRom_const_outside (s : State) (k : XF → Result) {i : ℕ} (h : 8 ≤ i) :
    readRom s .const i k = .refused (.romIndex .const i) :=
  readRom_outside (List.getElem?_eq_none h)

/-- Settles O37: the eight words by the read rules of `CONST`, the ranges by the length of each space. -/
theorem constantsAndRomRanges : Obligations.ConstantsAndRomRanges := by
  intro s k
  obtain ⟨hzero, hmhalf, hhalf, hone, hlo, hhi⟩ := const_values
  refine ⟨readRom_const0 s k, readRom_const1 s k, readRom_const2 s k, readRom_const3 s k,
    readRom_const4 s k, readRom_const5 s k, readRom_const6 s k, readRom_const7 s k,
    hzero, hmhalf, hhalf, hone, hlo, hhi, fun i => ⟨readRom_logtbl_outside s k,
    readRom_coef_outside s k, readRom_const_outside s k, fun h => ⟨_, readRom_logtbl s h k⟩,
    fun h => readRom_coef s ⟨i, h⟩ k⟩⟩

/-! `LN2A` and `LN2B` -/

theorem val_constLn2a : FP.val constLn2a = 45426 / 2 ^ 16 := by decide +kernel

theorem constLn2b_certified : FP.certifiesLn constLn2b 2 (45426 / 2 ^ 16) 44 = true := by
  decide +kernel

theorem constLn2b_ulpExp : constLn2b.ulpExp = -132 := by decide

theorem abs_val_constLn2b_sub_le :
    |(FP.val constLn2b : ℝ) - (Real.log 2 - 45426 / 2 ^ 16)| ≤ 2 ^ (-132 : ℤ) / 2 := by
  simpa [constLn2b_ulpExp] using FP.abs_val_sub_log_le two_pos constLn2b_certified

/-- `LN2A` times an exponent adjustment has at most 31 significant bits (R57). -/
theorem fmul_i2f_constLn2a_exact (dn : XF) {e : BitVec 16} (hmin : -16494 ≤ e.toInt)
    (hmax : e.toInt ≤ 16494) :
    FP.Exact (FP.fmul dn (FP.i2f e) constLn2a) (e.toInt * FP.val constLn2a) := by
  obtain ⟨hfin, hval⟩ := FP.i2f_exact e
  have hprod : |FP.val (FP.i2f e) * FP.val constLn2a| =
      (e.toInt.natAbs * 45426 : ℕ) * 2 ^ (-16 : ℤ) := by
    rw [hval, val_constLn2a, abs_mul, Nat.cast_mul, Nat.cast_natAbs, Int.cast_abs,
      abs_of_pos (by norm_num : (0 : ℚ) < 45426 / 2 ^ 16)]
    norm_num
    ring
  rw [← hval]
  exact FP.fmul_exact dn hfin rfl hprod (by omega) (by norm_num) (by norm_num)

/-- Settles O36: the enclosure of ln 2 in `ℚ` pins `LN2B`, and the product with `LN2A` needs no rounding. -/
theorem splitConstantSumsToLn2 : Obligations.SplitConstantSumsToLn2 := by
  have hln2b := abs_val_constLn2b_sub_le
  refine ⟨val_constLn2a, ?_, ?_, fun dn e hmin hmax => ?_⟩
  · simpa using FP.nearest_of_certifiesLn two_pos constLn2b_certified
  · have hhalf : (2 : ℝ) ^ (-132 : ℤ) / 2 < 2 ^ (-132 : ℤ) := half_lt_self (by positivity)
    refine lt_of_eq_of_lt ?_ (hln2b.trans_lt hhalf)
    push_cast [val_constLn2a]
    ring_nf
  · have hexact := fmul_i2f_constLn2a_exact dn hmin hmax
    exact ⟨hexact.flags, hexact.finite, hexact.value⟩

/-! `LOGTBL` -/

/-- The grid point `t_k` of R53. -/
def gridPoint (k : ℕ) : ℚ := (k + 90) / 128

theorem gridPoint_pos (k : ℕ) : 0 < gridPoint k := by
  unfold gridPoint
  positivity

/-- The word at an index of `LOGTBL` (R52). -/
def logtblWord (k : Fin 92) : XF := logtblRom[k.cast logtblRom_length.symm]

theorem romRead_logtbl (p : Params) (k : Fin 92) : romRead p .logtbl k = some (logtblWord k) :=
  List.getElem?_eq_getElem _

theorem logtblWord_certified : ∀ k : Fin 92, k ≠ 38 →
    FP.certifiesLn (logtblWord k) (gridPoint k) (gridPoint k - 1) 24 = true := by decide +kernel

theorem logtblWord_range : ∀ k : Fin 92, k ≠ 38 →
    FP.val (logtblWord k) < 0 ∧ |FP.val (logtblWord k)| < 68 / 1000 := by decide +kernel

theorem nearest_logtblWord {k : Fin 92} (hk : k ≠ 38) :
    Nearest (logtblWord k) (Real.log (((k : ℕ) + 90) / 128) - ((((k : ℕ) : ℝ) + 90) / 128 - 1)) := by
  simpa [gridPoint] using FP.nearest_of_certifiesLn (gridPoint_pos k) (logtblWord_certified k hk)

/-- Settles O35: every word of the table passes the check against a rational enclosure of its logarithm. -/
theorem logTableIsTheRoundedFormula : Obligations.LogTableIsTheRoundedFormula := by
  intro p k hk
  refine ⟨logtblWord ⟨k, hk⟩, romRead_logtbl p ⟨k, hk⟩, fun hanchor => ?_, fun hne => ?_⟩
  · subst hanchor
    rfl
  · have hne' : (⟨k, hk⟩ : Fin 92) ≠ 38 := fun h => hne (congrArg Fin.val h)
    exact ⟨nearest_logtblWord hne', logtblWord_range ⟨k, hk⟩ hne'⟩

end Sys2Proof.Machine
end

section
/-! PROOFS. The fields of an encoding with its quiet bit forced or its sign inverted, NaN operands (R107),
`fsub` (R109) and `i2f` (R112). -/

namespace Sys2Proof

namespace XF

theorem eq_of_fields_eq {v w : XF} (hs : v.sign = w.sign) (he : v.bexp = w.bexp) (hf : v.frac = w.frac) :
    v = w := by
  have hs' := congrArg BitVec.toNat hs
  have he' := congrArg BitVec.toNat he
  have hf' := congrArg BitVec.toNat hf
  rw [sign_toNat, sign_toNat] at hs'
  rw [bexp_toNat, bexp_toNat] at he'
  rw [frac_toNat, frac_toNat] at hf'
  exact BitVec.eq_of_toNat_eq (by omega)

/-! `quiet` sets bit 111 and nothing else -/

theorem getLsbD_quiet (v : XF) (i : ℕ) : v.quiet.getLsbD i = (v.getLsbD i || decide (i = 111)) := by
  have hbit : (1 <<< 111 : XF) = BitVec.twoPow 128 111 := rfl
  rw [quiet, hbit, BitVec.getLsbD_or, BitVec.getLsbD_twoPow]
  grind

@[simp] theorem sign_quiet (v : XF) : v.quiet.sign = v.sign := by
  refine BitVec.eq_of_getLsbD_eq fun i _ => ?_
  have hne : 127 + i ≠ 111 := by omega
  simp [sign, getLsbD_quiet, hne]

@[simp] theorem bexp_quiet (v : XF) : v.quiet.bexp = v.bexp := by
  refine BitVec.eq_of_getLsbD_eq fun i _ => ?_
  have hne : 112 + i ≠ 111 := by omega
  simp [bexp, getLsbD_quiet, hne]

theorem getLsbD_frac_quiet (v : XF) : v.quiet.frac.getLsbD 111 = true := by
  simp [frac, getLsbD_quiet]

theorem payload_quiet (v : XF) : v.quiet.extractLsb' 0 111 = v.extractLsb' 0 111 := by
  refine BitVec.eq_of_getLsbD_eq fun i hi => ?_
  have hne : i ≠ 111 := by omega
  simp [getLsbD_quiet, hne]

theorem isNaN_of_isQuietNaN {v : XF} (h : v.isQuietNaN = true) : v.isNaN = true := by
  simp only [isQuietNaN, Bool.and_eq_true] at h
  exact h.1

theorem isNaN_of_isSignallingNaN {v : XF} (h : v.isSignallingNaN = true) : v.isNaN = true := by
  simp only [isSignallingNaN, Bool.and_eq_true] at h
  exact h.1

theorem isSignallingNaN_of_isQuietNaN {v : XF} (h : v.isQuietNaN = true) : v.isSignallingNaN = false := by
  simp_all [isQuietNaN, isSignallingNaN]

theorem isQuietNaN_quiet {v : XF} (h : v.isNaN = true) : v.quiet.isQuietNaN = true := by
  have hbit := getLsbD_frac_quiet v
  have hbexp : v.bexp = 0x7FFF := by simp_all [isNaN]
  have hfrac : v.quiet.frac ≠ 0#112 := fun h0 => by simp [h0] at hbit
  simpa [isQuietNaN, isNaN, hbexp, hfrac] using hbit

/-- A NaN that is quiet already stays as it is (R107). -/
theorem quiet_of_isQuietNaN {v : XF} (h : v.isQuietNaN = true) : v.quiet = v := by
  have hbit : v.getLsbD 111 = true := by simp_all [isQuietNaN, frac]
  refine BitVec.eq_of_getLsbD_eq fun i _ => ?_
  obtain rfl | hne := eq_or_ne i 111
  · rw [getLsbD_quiet, hbit]
    rfl
  · simp [getLsbD_quiet, hne]

/-! `neg` inverts bit 127 and nothing else -/

theorem getLsbD_neg (v : XF) (i : ℕ) : v.neg.getLsbD i = (v.getLsbD i ^^ decide (i = 127)) := by
  have hbit : (0x80000000000000000000000000000000 : XF) = BitVec.twoPow 128 127 := rfl
  rw [neg, hbit, BitVec.getLsbD_xor, BitVec.getLsbD_twoPow]
  grind

@[simp] theorem sign_neg (v : XF) : v.neg.sign = v.sign ^^^ 1 := by
  refine BitVec.eq_of_getLsbD_eq fun i hi => ?_
  obtain rfl : i = 0 := by omega
  rw [BitVec.getLsbD_xor, sign, sign, BitVec.getLsbD_extractLsb', BitVec.getLsbD_extractLsb', getLsbD_neg]
  rfl

@[simp] theorem bexp_neg (v : XF) : v.neg.bexp = v.bexp := by
  refine BitVec.eq_of_getLsbD_eq fun i hi => ?_
  have hne : 112 + i ≠ 127 := by omega
  simp [bexp, getLsbD_neg, hne]

@[simp] theorem frac_neg (v : XF) : v.neg.frac = v.frac := by
  refine BitVec.eq_of_getLsbD_eq fun i hi => ?_
  have hne : i ≠ 127 := by omega
  simp [frac, getLsbD_neg, hne]

theorem neg_eq_pack (v : XF) : v.neg = pack (v.sign ^^^ 1) v.bexp v.frac :=
  eq_of_fields_eq (by simp) (by simp) (by simp)

@[simp] theorem isNaN_neg (v : XF) : v.neg.isNaN = v.isNaN := by simp [isNaN]
@[simp] theorem isInf_neg (v : XF) : v.neg.isInf = v.isInf := by simp [isInf]

theorem sign_ne_sign_neg (v : XF) : v.sign ≠ v.neg.sign := by
  rw [sign_neg]
  obtain h | h := BitVec.eq_zero_or_eq_one v.sign <;> rw [h] <;> decide

theorem isNaN_of_isInf {v : XF} (h : v.isInf = true) : v.isNaN = false := by
  simp_all [isInf, isNaN]

end XF

namespace FP

/-! NaN operands -/

section
variable {a b : XF}

theorem isNaN_first_NaN (h : a.isNaN = true ∨ b.isNaN = true) :
    (if a.isNaN then a else b).isNaN = true := by
  split
  case isTrue ha => exact ha
  case isFalse ha => exact h.resolve_left ha

theorem nanprop_value (a b : XF) : (nanprop a b).value = (if a.isNaN then a else b).quiet :=
  (apply_ite XF.quiet (a.isNaN = true) a b).symm

theorem nanprop_flags (a b : XF) :
    (nanprop a b).flags = if a.isSignallingNaN ∨ b.isSignallingNaN then Flag.nv else 0 := rfl

variable (h : a.isNaN = true ∨ b.isNaN = true)
include h

theorem fadd_eq_nanprop (dn : XF) : fadd dn a b = nanprop a b := if_pos h
theorem fsub_eq_nanprop (dn : XF) : fsub dn a b = nanprop a b := if_pos h
theorem fmul_eq_nanprop (dn : XF) : fmul dn a b = nanprop a b := if_pos h
theorem fdiv_eq_nanprop (dn : XF) : fdiv dn a b = nanprop a b := if_pos h

/-- The operand-by-operand reading of `nanprop` (R107). -/
theorem nanprop_of_isNaN : (nanprop a b).value.isQuietNaN = true ∧
    (nanprop a b).value.sign = (if a.isNaN then a else b).sign ∧
    (nanprop a b).value.extractLsb' 0 111 = (if a.isNaN then a else b).extractLsb' 0 111 ∧
    (nanprop a b).flags = if a.isSignallingNaN ∨ b.isSignallingNaN then 0b10000 else 0 := by
  rw [nanprop_value]
  exact ⟨XF.isQuietNaN_quiet (isNaN_first_NaN h), XF.sign_quiet _, XF.payload_quiet _, nanprop_flags a b⟩

end

/-- Settles O17: each of the four primitives is `nanprop` on such operands. -/
theorem nanOperandsPropagate : Obligations.NanOperandsPropagate := by
  intro dn a b op hop h
  have hnan : op a b = nanprop a b := by
    simp only [List.mem_cons, List.not_mem_nil, or_false] at hop
    obtain rfl | rfl | rfl | rfl := hop
    · exact fadd_eq_nanprop h dn
    · exact fsub_eq_nanprop h dn
    · exact fmul_eq_nanprop h dn
    · exact fdiv_eq_nanprop h dn
  rw [hnan]
  exact nanprop_of_isNaN h

/-! `fsub` -/

theorem fsub_eq_fadd_neg (dn : XF) {a b : XF} (ha : a.isNaN = false) (hb : b.isNaN = false) :
    fsub dn a b = fadd dn a b.neg := by simp [fsub, ha, hb]

/-- `fadd` on finite operands: one rounding of a non-zero sum, and the sign rule of a zero sum (R108). -/
theorem fadd_of_isFinite (dn : XF) {a b : XF} (ha : a.isFinite = true) (hb : b.isFinite = true) :
    fadd dn a b = if val a + val b = 0 then
        if a.isZero ∧ b.isZero ∧ a.sign = b.sign then ⟨a, 0⟩ else ⟨XF.zero 0, 0⟩
      else round (if val a + val b < 0 then 1 else 0) |val a + val b| := by
  simp [fadd, XF.isNaN_of_isFinite, XF.isInf_of_isFinite, ha, hb, Flag.none]

theorem val_neg (v : XF) : val v.neg = -val v := by
  rw [XF.neg_eq_pack, val_eq_signed (XF.pack _ _ _), val_eq_signed v]
  simp only [XF.significand, XF.ulpExp, XF.bexp_pack, XF.frac_pack, XF.sign_pack]
  obtain h | h := BitVec.eq_zero_or_eq_one v.sign <;> simp [h]

theorem fsub_self_of_isFinite (dn : XF) {x : XF} (h : x.isFinite = true) : fsub dn x x = ⟨0, 0⟩ := by
  have hnan := XF.isNaN_of_isFinite h
  have hneg : x.neg.isFinite = true := by simpa [XF.isFinite] using h
  have hsign := XF.sign_ne_sign_neg x
  rw [fsub_eq_fadd_neg dn hnan hnan, fadd_of_isFinite dn h hneg, val_neg, add_neg_cancel, if_pos rfl,
    if_neg fun hzero => hsign hzero.2.2]
  rfl

theorem fsub_self_of_isInf (dn : XF) {x : XF} (h : x.isInf = true) : fsub dn x x = ⟨dn, Flag.nv⟩ := by
  have hnan := XF.isNaN_of_isInf h
  have hsign := XF.sign_ne_sign_neg x
  rw [fsub_eq_fadd_neg dn hnan hnan]
  simp only [fadd, XF.isNaN_neg, hnan, XF.isInf_neg, h, invalid, if_pos hsign, and_self, if_true, or_self,
    Bool.false_eq_true, if_false]

theorem fsub_self_of_isNaN (dn : XF) {x : XF} (h : x.isNaN = true) :
    fsub dn x x = ⟨x.quiet, if x.isSignallingNaN then Flag.nv else 0⟩ := by
  rw [fsub_eq_nanprop (.inl h)]
  simp [nanprop, h, Flag.when, Flag.none]

/-- Settles O18: `x - x` by the class of `x`, through `fadd` of `x` and its negation or through `nanprop`. -/
theorem subtractingAnOperandFromItself : Obligations.SubtractingAnOperandFromItself := by
  refine ⟨fun dn a b => ⟨fun h => fsub_eq_nanprop h dn, fun ha hb => ?_⟩, fun dn x =>
    ⟨fsub_self_of_isFinite dn, fsub_self_of_isInf dn, fun hquiet => ?_, fun hsig => ?_⟩⟩
  · rw [fsub_eq_fadd_neg dn ha hb, XF.neg_eq_pack]
  · rw [fsub_self_of_isNaN dn (XF.isNaN_of_isQuietNaN hquiet), XF.quiet_of_isQuietNaN hquiet,
      XF.isSignallingNaN_of_isQuietNaN hquiet]
    rfl
  · rw [fsub_self_of_isNaN dn (XF.isNaN_of_isSignallingNaN hsig), hsig]
    rfl

/-! `i2f` -/

/-- The rounding of a non-zero 16-bit integer is exact (R112). -/
theorem round_natAbs_exact (s : BitVec 1) {n : BitVec 16} (hn : n ≠ 0) :
    Exact (round s (n.toInt.natAbs : ℚ)) (signed s (n.toInt.natAbs : ℚ)) := by
  have hpos : 0 < n.toInt.natAbs :=
    Int.natAbs_pos.mpr fun h => hn (BitVec.eq_of_toInt_eq (by rw [h]; rfl))
  have hlt : n.toInt.natAbs < 2 ^ 113 := by
    have hle := BitVec.le_toInt n
    have hge := BitVec.toInt_lt (x := n)
    omega
  simpa using round_exact s hpos hlt (q := 0) (by norm_num) (by norm_num)

theorem i2f_of_ne_zero {n : BitVec 16} (hn : n ≠ 0) :
    i2f n = (round (if n.toInt < 0 then 1 else 0) (n.toInt.natAbs : ℚ)).value := if_neg hn

/-- Settles O20: at most 16 significant bits need no rounding. -/
theorem integerConversionIsExact : Obligations.IntegerConversionIsExact := by
  intro n
  obtain ⟨hfinite, hval⟩ := i2f_exact n
  refine ⟨hfinite, hval, fun h0 => by rw [h0]; rfl, fun hn => ?_⟩
  rw [i2f_of_ne_zero hn, ← (round_natAbs_exact _ hn).flags]

end FP

end Sys2Proof
end

section
/-! PROOFS. The order of the encodings: the bits without the sign order the magnitudes (R102), so `fle` orders
the values (R113). -/

namespace Sys2Proof

namespace XF

theorem bexp_eq_zero_iff (v : XF) : v.bexp = 0 ↔ v.bexp.toNat = 0 := BitVec.toNat_inj.symm
theorem bexp_eq_ones_iff (v : XF) : v.bexp = 0x7FFF ↔ v.bexp.toNat = 0x7FFF := BitVec.toNat_inj.symm
theorem frac_eq_zero_iff (v : XF) : v.frac = 0 ↔ v.frac.toNat = 0 := BitVec.toNat_inj.symm

theorem mag_eq (v : XF) : v.mag.toNat = v.bexp.toNat * 2 ^ 112 + v.frac.toNat := by
  rw [mag_toNat, bexp_toNat, frac_toNat]
  omega

/-- The magnitude bits count the encodings from +0: `2^112` of them to a place value, and the normal ones
have the implicit bit (R102). -/
theorem mag_eq_significand_add (v : XF) :
    (v.mag.toNat : ℤ) = v.significand + 2 ^ 112 * (v.ulpExp + 16494) := by
  rw [mag_eq, significand, ulpExp]
  split
  case isTrue h =>
    have hzero := v.bexp_eq_zero_iff.mp h
    omega
  case isFalse h =>
    have hpos := mt v.bexp_eq_zero_iff.mpr h
    omega

theorem ulpExp_ge (v : XF) : -16494 ≤ v.ulpExp := by
  unfold ulpExp
  omega

theorem two_pow_le_significand {v : XF} (h : -16494 < v.ulpExp) : 2 ^ 112 ≤ v.significand := by
  have hne : v.bexp ≠ 0 := fun h0 => by simp [ulpExp, h0] at h
  rw [significand, if_neg hne]
  exact Nat.le_add_right _ _

theorem eq_of_sign_eq_of_mag_eq {v w : XF} (hs : v.sign = w.sign) (hm : v.mag = w.mag) : v = w := by
  have hs' := congrArg BitVec.toNat hs
  have hm' := congrArg BitVec.toNat hm
  rw [sign_toNat, sign_toNat] at hs'
  rw [mag_toNat, mag_toNat] at hm'
  exact BitVec.eq_of_toNat_eq (by omega)

theorem isNaN_iff_mag (v : XF) : v.isNaN = true ↔ 0x7FFF * 2 ^ 112 < v.mag.toNat := by
  have he := v.bexp.isLt
  have hf := v.frac.isLt
  simp only [isNaN, Bool.and_eq_true, beq_iff_eq, bne_iff_ne, ne_eq, bexp_eq_ones_iff, frac_eq_zero_iff,
    mag_eq]
  omega

theorem isInf_iff_mag (v : XF) : v.isInf = true ↔ v.mag.toNat = 0x7FFF * 2 ^ 112 := by
  have he := v.bexp.isLt
  have hf := v.frac.isLt
  simp only [isInf, Bool.and_eq_true, beq_iff_eq, bexp_eq_ones_iff, frac_eq_zero_iff, mag_eq]
  omega

theorem isFinite_iff_mag (v : XF) : v.isFinite = true ↔ v.mag.toNat < 0x7FFF * 2 ^ 112 := by
  have he := v.bexp.isLt
  have hf := v.frac.isLt
  simp only [isFinite, bne_iff_ne, ne_eq, bexp_eq_ones_iff, mag_eq]
  omega

end XF

namespace FP

theorem abs_val_lt_of_mag_lt {a b : XF} (h : a.mag.toNat < b.mag.toNat) : |val a| < |val b| := by
  have ha := a.mag_eq_significand_add
  have hb := b.mag_eq_significand_add
  have ha_lt := a.significand_lt
  have hb_lt := b.significand_lt
  rw [abs_val, abs_val]
  obtain hlt | heq | hgt := lt_trichotomy a.ulpExp b.ulpExp
  · have hb_ge := XF.two_pow_le_significand (lt_of_le_of_lt a.ulpExp_ge hlt)
    calc (a.significand : ℚ) * 2 ^ a.ulpExp
        < 2 ^ 113 * 2 ^ a.ulpExp := by gcongr; exact_mod_cast ha_lt
      _ = 2 ^ 112 * 2 ^ (a.ulpExp + 1) := by rw [zpow_add_one₀ two_ne_zero]; ring
      _ ≤ b.significand * 2 ^ b.ulpExp := by
        gcongr
        · exact_mod_cast hb_ge
        · exact one_le_two
        · omega
  · rw [heq]
    gcongr
    rw [heq] at ha
    omega
  · have ha_ge := XF.two_pow_le_significand (lt_of_le_of_lt b.ulpExp_ge hgt)
    omega

/-- R102's last sentence, for every sign. -/
theorem abs_val_le_abs_val_iff {a b : XF} : |val a| ≤ |val b| ↔ a.mag.toNat ≤ b.mag.toNat := by
  refine ⟨fun h => not_lt.mp fun hlt => (abs_val_lt_of_mag_lt hlt).not_ge h, fun h => ?_⟩
  obtain hlt | heq := lt_or_eq_of_le h
  · exact (abs_val_lt_of_mag_lt hlt).le
  · have hmag (v : XF) : val (XF.pack 0 v.bexp v.frac) = |val v| := by
      simp [val_eq_signed (XF.pack _ _ _), abs_val, XF.significand, XF.ulpExp]
    have hword : XF.pack 0 a.bexp a.frac = XF.pack 0 b.bexp b.frac := by
      have ha := a.mag_eq
      have hb := b.mag_eq
      exact BitVec.eq_of_toNat_eq (by rw [XF.toNat_pack, XF.toNat_pack]; omega)
    rw [← hmag a, ← hmag b, hword]

theorem eq_of_sign_eq_of_abs_val_eq {a b : XF} (hs : a.sign = b.sign) (h : |val a| = |val b|) : a = b :=
  XF.eq_of_sign_eq_of_mag_eq hs (BitVec.eq_of_toNat_eq
    ((abs_val_le_abs_val_iff.mp h.le).antisymm (abs_val_le_abs_val_iff.mp h.ge)))

theorem abs_val_le_zero_iff (v : XF) : |val v| ≤ 0 ↔ v.mag.toNat = 0 := by
  have h := abs_val_le_abs_val_iff (a := v) (b := XF.zero 0)
  rw [val_zero, abs_zero] at h
  exact h.trans Nat.le_zero

theorem orderKey_of_sign_zero {v : XF} (h : v.sign = 0) : orderKey v = v.mag.toNat := by simp [orderKey, h]
theorem orderKey_of_sign_one {v : XF} (h : v.sign = 1) : orderKey v = -(v.mag.toNat : ℤ) := if_pos h

theorem val_of_sign_zero {v : XF} (h : v.sign = 0) : val v = |val v| := by
  rw [← signed_sign_abs_val v, h, abs_signed, abs_abs]
  exact signed_zero_bit _

theorem val_of_sign_one {v : XF} (h : v.sign = 1) : val v = -|val v| := by
  rw [← signed_sign_abs_val v, h, abs_signed, abs_abs]
  exact signed_one_bit _

/-- The integer by which the model compares orders the encodings as their values (R113). -/
theorem orderKey_le_orderKey_iff (a b : XF) : orderKey a ≤ orderKey b ↔ val a ≤ val b := by
  have ha_zero := abs_val_le_zero_iff a
  have hb_zero := abs_val_le_zero_iff b
  have ha_nonneg := abs_nonneg (val a)
  have hb_nonneg := abs_nonneg (val b)
  obtain ha | ha := BitVec.eq_zero_or_eq_one a.sign <;> obtain hb | hb := BitVec.eq_zero_or_eq_one b.sign
  · rw [orderKey_of_sign_zero ha, orderKey_of_sign_zero hb, val_of_sign_zero ha, val_of_sign_zero hb,
      Nat.cast_le, abs_val_le_abs_val_iff]
  · rw [orderKey_of_sign_zero ha, orderKey_of_sign_one hb, val_of_sign_zero ha, val_of_sign_one hb]
    constructor
    · intro h
      linarith [ha_zero.mpr (by omega), hb_zero.mpr (by omega)]
    · intro h
      have ha' := ha_zero.mp (by linarith)
      have hb' := hb_zero.mp (by linarith)
      omega
  · rw [orderKey_of_sign_one ha, orderKey_of_sign_zero hb, val_of_sign_one ha, val_of_sign_zero hb]
    exact ⟨fun _ => by linarith, fun _ => by omega⟩
  · rw [orderKey_of_sign_one ha, orderKey_of_sign_one hb, val_of_sign_one ha, val_of_sign_one hb,
      neg_le_neg_iff, neg_le_neg_iff, Nat.cast_le, abs_val_le_abs_val_iff]

/-! `fle` -/

theorem fle_of_not_isNaN {a b : XF} (ha : a.isNaN = false) (hb : b.isNaN = false) :
    fle a b = some (decide (orderKey a ≤ orderKey b)) := by simp [fle, ha, hb]

theorem fle_of_isNaN {a b : XF} (h : a.isNaN = true ∨ b.isNaN = true) : fle a b = none := if_pos h

/-- The integer that orders the infinities, one beyond those of the finite encodings (R113). -/
def infKey : ℤ := 0x7FFF * 2 ^ 112

theorem orderKey_of_isInf {v : XF} (h : v.isInf = true) :
    orderKey v = if v.sign = 1 then -infKey else infKey := by
  rw [orderKey, (XF.isInf_iff_mag v).mp h]
  rfl

theorem abs_orderKey_eq_mag (v : XF) : |orderKey v| = v.mag.toNat := by
  unfold orderKey
  split
  · rw [abs_neg, Nat.abs_cast]
  · rw [Nat.abs_cast]

theorem abs_orderKey_le_infKey {v : XF} (h : v.isNaN = false) : |orderKey v| ≤ infKey := by
  have hmag := mt (XF.isNaN_iff_mag v).mpr (Bool.eq_false_iff.mp h)
  rw [abs_orderKey_eq_mag, infKey]
  omega

theorem abs_orderKey_lt_infKey {v : XF} (h : v.isFinite = true) : |orderKey v| < infKey := by
  have hmag := (XF.isFinite_iff_mag v).mp h
  rw [abs_orderKey_eq_mag, infKey]
  omega

/-- Settles O16: in every clause `fle` compares the integers that order the encodings. -/
theorem fleOrdersByValue : Obligations.FleOrdersByValue := by
  intro a b
  refine ⟨fun ha hb => ?finite, fun ha hs hb => ?minusInf_left, fun hb hs ha => ?plusInf_right,
    fun ha hs hb => ?plusInf_left, fun hb hs ha => ?minusInf_right, fun ha hb hsa hsb => ?opposite,
    fle_of_isNaN, fun ha hb => ?positive⟩
  case finite =>
    simp only [fle_of_not_isNaN (XF.isNaN_of_isFinite ha) (XF.isNaN_of_isFinite hb),
      orderKey_le_orderKey_iff]
  case minusInf_left =>
    have hkey := abs_le.mp (abs_orderKey_le_infKey hb)
    rw [fle_of_not_isNaN (XF.isNaN_of_isInf ha) hb, orderKey_of_isInf ha, if_pos hs,
      decide_eq_true hkey.1]
  case plusInf_right =>
    have hkey := abs_le.mp (abs_orderKey_le_infKey ha)
    rw [fle_of_not_isNaN ha (XF.isNaN_of_isInf hb), orderKey_of_isInf hb, if_neg (by simp [hs]),
      decide_eq_true hkey.2]
  case plusInf_left =>
    have hkey := abs_lt.mp (abs_orderKey_lt_infKey hb)
    rw [fle_of_not_isNaN (XF.isNaN_of_isInf ha) (XF.isNaN_of_isFinite hb), orderKey_of_isInf ha,
      if_neg (by simp [hs]), decide_eq_false hkey.2.not_ge]
  case minusInf_right =>
    have hkey := abs_lt.mp (abs_orderKey_lt_infKey ha)
    rw [fle_of_not_isNaN (XF.isNaN_of_isFinite ha) (XF.isNaN_of_isInf hb), orderKey_of_isInf hb,
      if_pos hs, decide_eq_false hkey.1.not_ge]
  case opposite =>
    rw [fle_of_not_isNaN (XF.isNaN_of_isInf ha) (XF.isNaN_of_isInf hb), orderKey_of_isInf ha,
      orderKey_of_isInf hb, if_neg (by simp [hsa]), if_pos hsb, decide_eq_false (by decide)]
  case positive =>
    simp only [Machine.posFinite, Bool.and_eq_true, beq_iff_eq] at ha hb
    obtain ⟨⟨hsa, hfa⟩, -⟩ := ha
    obtain ⟨⟨hsb, hfb⟩, -⟩ := hb
    simp only [fle_of_not_isNaN (XF.isNaN_of_isFinite hfa) (XF.isNaN_of_isFinite hfb),
      orderKey_of_sign_zero hsa, orderKey_of_sign_zero hsb, Nat.cast_le]

end FP

end Sys2Proof
end

section
/-! PROOFS. The magnitude `round` rounds to: whole quanta to the nearest, ties to even (R104), and when it
reaches the overflow and underflow bounds (R105, R106). -/

namespace Sys2Proof.FP

/-! The nearest integer -/

/-- The nearest integer is less than a half away, or a half away and even. -/
theorem abs_nearestEven_sub {n : ℚ} (hn : 0 ≤ n) : |(nearestEven n : ℚ) - n| < 1 / 2 ∨
    |(nearestEven n : ℚ) - n| = 1 / 2 ∧ nearestEven n % 2 = 0 := by
  have hfloor := Nat.floor_le hn
  have hceil := Nat.lt_floor_add_one n
  simp only [nearestEven]
  split
  case isTrue hup =>
    push_cast
    rw [abs_of_nonneg (by linarith)]
    obtain hgt | ⟨heq, hodd⟩ := hup
    · exact .inl (by linarith)
    · exact .inr ⟨by linarith, by omega⟩
  case isFalse hdown =>
    rw [abs_sub_comm, abs_of_nonneg (by linarith)]
    obtain ⟨hle, htie⟩ := not_or.mp hdown
    obtain hlt | heq := lt_or_eq_of_le (not_lt.mp hle)
    · exact .inl hlt
    · exact .inr ⟨heq, Nat.mod_two_ne_one.mp fun hodd => htie ⟨heq, hodd⟩⟩

theorem abs_nearestEven_sub_le {n : ℚ} (hn : 0 ≤ n) : |(nearestEven n : ℚ) - n| ≤ 1 / 2 :=
  (abs_nearestEven_sub hn).elim le_of_lt fun h => h.1.le

/-- Any other integer is farther away, or as far away from a tie that went to the even one. -/
theorem nearestEven_nearest {n : ℚ} (hn : 0 ≤ n) {k : ℕ} (hk : k ≠ nearestEven n) :
    |(nearestEven n : ℚ) - n| < |(k : ℚ) - n| ∨
      |(nearestEven n : ℚ) - n| = |(k : ℚ) - n| ∧ nearestEven n % 2 = 0 := by
  have hgap : (1 : ℚ) ≤ |(k : ℚ) - nearestEven n| := by
    have hint : (1 : ℤ) ≤ |(k : ℤ) - nearestEven n| := Int.one_le_abs (by omega)
    exact_mod_cast hint
  have htri := abs_sub_le (k : ℚ) n (nearestEven n)
  rw [abs_sub_comm n] at htri
  obtain hlt | ⟨heq, heven⟩ := abs_nearestEven_sub hn
  · exact .inl (by linarith)
  · obtain hlt | heq' := lt_or_eq_of_le (show 1 / 2 ≤ |(k : ℚ) - n| by linarith)
    · exact .inl (by linarith)
    · exact .inr ⟨heq.trans heq', heven⟩

/-- A value is rounded up to an even integer from the half before it on. -/
theorem le_nearestEven_iff {n : ℚ} (hn : 0 ≤ n) {k : ℕ} (hk : k % 2 = 0) :
    k ≤ nearestEven n ↔ (k : ℚ) - 1 / 2 ≤ n := by
  have hclose := abs_le.mp (abs_nearestEven_sub_le hn)
  refine ⟨fun h => ?_, fun h => ?_⟩
  · have hcast : (k : ℚ) ≤ nearestEven n := by exact_mod_cast h
    linarith
  · by_contra hlt
    have hcast : (nearestEven n : ℚ) + 1 ≤ k := by exact_mod_cast not_le.mp hlt
    obtain hnear | ⟨-, heven⟩ := abs_nearestEven_sub hn
    · linarith [(abs_lt.mp hnear).1]
    · have hodd : (nearestEven n : ℚ) + 1 = k := by linarith
      have hodd' : nearestEven n + 1 = k := by exact_mod_cast hodd
      omega

theorem nearestEven_le {n : ℚ} (hn : 0 ≤ n) {k : ℕ} (h : n ≤ k) : nearestEven n ≤ k := by
  have hclose := abs_le.mp (abs_nearestEven_sub_le hn)
  have hlt : (nearestEven n : ℚ) < (k + 1 : ℕ) := by
    push_cast
    linarith
  exact Nat.lt_succ_iff.mp (by exact_mod_cast hlt)

theorem le_nearestEven {n : ℚ} (hn : 0 ≤ n) {k : ℕ} (h : k ≤ n) : k ≤ nearestEven n := by
  have hclose := abs_le.mp (abs_nearestEven_sub_le hn)
  have hlt : (k : ℚ) < (nearestEven n + 1 : ℕ) := by
    push_cast
    linarith
  exact Nat.lt_succ_iff.mp (by exact_mod_cast hlt)

theorem floor_rem_eq_zero_iff (n : ℚ) : n - ⌊n⌋₊ = 0 ↔ (nearestEven n : ℚ) = n := by
  refine ⟨fun h => ?_, fun h => ?_⟩
  · rw [sub_eq_zero.mp h, nearestEven_natCast]
  · rw [← h, Nat.floor_natCast, sub_self]

/-! The rounded magnitude -/

/-- The exponent of the quantum R104 takes for the magnitude `r`: the unit in the last place, not below
that of the subnormal encodings. -/
def quantumExp (r : ℚ) : ℤ := max (Int.log 2 r) (-16382) - 112

/-- How many of its quanta the magnitude `r` is rounded to (the `g` of R104 before the carry). -/
def quanta (r : ℚ) : ℕ := nearestEven (r / 2 ^ quantumExp r)

/-- The magnitude `r` is rounded to, before R105's test for overflow. -/
def rounded (r : ℚ) : ℚ := quanta r * 2 ^ quantumExp r

/-- A power of two as so many quanta. -/
theorem two_zpow_add (q : ℤ) (m : ℕ) : (2 : ℚ) ^ (q + m) = (2 ^ m : ℕ) * 2 ^ q := by
  rw [add_comm, zpow_add₀ two_ne_zero, zpow_natCast, Nat.cast_pow, Nat.cast_two]

theorem rounded_nonneg (r : ℚ) : 0 ≤ rounded r := by
  unfold rounded
  positivity

theorem rounded_eq_iff (r : ℚ) : rounded r = r ↔ r / 2 ^ quantumExp r - ⌊r / 2 ^ quantumExp r⌋₊ = 0 := by
  rw [floor_rem_eq_zero_iff, rounded, quanta, eq_div_iff (by positivity)]

section
variable {r : ℚ} (hr : 0 < r)
include hr

theorem two_zpow_log_le : (2 : ℚ) ^ Int.log 2 r ≤ r := by
  simpa using Int.zpow_log_le_self one_lt_two hr

theorem lt_two_zpow_of_log_lt {k : ℤ} (h : Int.log 2 r < k) : r < 2 ^ k := by
  simpa using (Int.lt_zpow_iff_log_lt one_lt_two hr).mpr h

theorem nearestEven_div_le {q : ℤ} (hlog : Int.log 2 r ≤ q + 112) :
    nearestEven (r / 2 ^ q) ≤ 2 ^ 113 := by
  have hlt := lt_two_zpow_of_log_lt hr (show Int.log 2 r < q + (113 : ℕ) by omega)
  rw [two_zpow_add] at hlt
  exact nearestEven_le (by positivity) ((div_le_iff₀ (by positivity)).mpr hlt.le)

theorem le_nearestEven_div {q : ℤ} (hlog : q + 112 ≤ Int.log 2 r) :
    2 ^ 112 ≤ nearestEven (r / 2 ^ q) := by
  have hle : (2 : ℚ) ^ (q + (112 : ℕ)) ≤ r :=
    (zpow_le_zpow_right₀ one_le_two hlog).trans (two_zpow_log_le hr)
  rw [two_zpow_add] at hle
  exact le_nearestEven (by positivity) ((le_div_iff₀ (by positivity)).mpr hle)

/-- Rounding to 113 bits, with or without a least quantum, reaches a power of two from a quarter of a unit
in its last place below it on. -/
theorem two_zpow_le_nearestEven_mul_iff {q k : ℤ} (hlog : Int.log 2 r ≤ q + 112)
    (hq : q + 112 = Int.log 2 r ∨ q + 113 < k) :
    2 ^ k ≤ (nearestEven (r / 2 ^ q) : ℚ) * 2 ^ q ↔ 2 ^ k - 2 ^ (k - 114) ≤ r := by
  have hquantum : (0 : ℚ) < 2 ^ q := by positivity
  obtain hlt | heq | hgt := lt_trichotomy (q + (113 : ℕ)) k
  · have hk : (2 : ℚ) ^ (q + (113 : ℕ)) ≤ 2 ^ (k - 1) := zpow_le_zpow_right₀ one_le_two (by omega)
    have hquarter : (2 : ℚ) ^ (k - 114) ≤ 2 ^ (k - 1) := zpow_le_zpow_right₀ one_le_two (by omega)
    have hhalf : (2 : ℚ) ^ k = 2 ^ (k - 1) * 2 := by rw [← zpow_add_one₀ two_ne_zero, sub_add_cancel]
    have hpos : (0 : ℚ) < 2 ^ (k - 1) := by positivity
    have hr_lt := lt_two_zpow_of_log_lt hr (show Int.log 2 r < q + (113 : ℕ) by omega)
    have hg : (nearestEven (r / 2 ^ q) : ℚ) * 2 ^ q ≤ 2 ^ (q + (113 : ℕ)) := by
      rw [two_zpow_add]
      gcongr
      exact nearestEven_div_le hr hlog
    exact iff_of_false (not_le.mpr (hg.trans_lt (hk.trans_lt (by linarith)))) (by linarith)
  · have hhalf : (2 : ℚ) ^ (k - 114) = 1 / 2 * 2 ^ q := by
      rw [← heq, show q + (113 : ℕ) - 114 = q - 1 by push_cast; ring, zpow_sub_one₀ two_ne_zero]
      ring
    rw [hhalf, ← heq, two_zpow_add, mul_le_mul_iff_left₀ hquantum, ← sub_mul, ← le_div_iff₀ hquantum,
      Nat.cast_le]
    exact le_nearestEven_iff (by positivity) rfl
  · have hk : (2 : ℚ) ^ k ≤ 2 ^ (q + (112 : ℕ)) := zpow_le_zpow_right₀ one_le_two (by omega)
    have hquarter : (0 : ℚ) < 2 ^ (k - 114) := by positivity
    have hle := (zpow_le_zpow_right₀ (one_le_two (α := ℚ)) (show k ≤ Int.log 2 r by omega)).trans
      (two_zpow_log_le hr)
    refine iff_of_true (hk.trans ?_) (by linarith)
    rw [two_zpow_add]
    gcongr
    exact le_nearestEven_div hr (by omega)

/-- Tininess after rounding as a bound on the magnitude (R106). -/
theorem tiny_iff : tiny r = true ↔ r < 2 ^ (-16382 : ℤ) - 2 ^ (-16496 : ℤ) := by
  have hlog : Int.log 2 r - 112 + 112 = Int.log 2 r := by ring
  have hiff := two_zpow_le_nearestEven_mul_iff hr (k := -16382) hlog.ge (.inl hlog)
  rw [tiny, decide_eq_true_iff, ← not_le, ← not_le]
  exact not_congr hiff

/-- The rounded magnitude reaches `2^16384` from half a unit before it on (R105). -/
theorem overflow_iff : 2 ^ (16384 : ℤ) ≤ rounded r ↔ 2 ^ (16384 : ℤ) - 2 ^ (16270 : ℤ) ≤ r :=
  two_zpow_le_nearestEven_mul_iff hr (k := 16384) (by unfold quantumExp; omega)
    (by unfold quantumExp; omega)

/-- A subnormal or zero result is of a tiny magnitude (R106). -/
theorem lt_of_quanta_lt (h : quanta r < 2 ^ 112) :
    quantumExp r = -16494 ∧ r < 2 ^ (-16382 : ℤ) - 2 ^ (-16496 : ℤ) := by
  have hexp : quantumExp r = -16494 := by
    have hlog := mt (le_nearestEven_div hr (q := quantumExp r)) h.not_ge
    unfold quantumExp at *
    omega
  refine ⟨hexp, lt_of_not_ge fun hle => h.not_ge ?_⟩
  rw [quanta, hexp]
  refine (le_nearestEven_iff (by positivity) rfl).mpr ((le_div_iff₀ (by positivity)).mpr (le_trans ?_ hle))
  have hnormal := two_zpow_add (-16494) 112
  have hhalf : (2 : ℚ) ^ (-16494 : ℤ) = 2 ^ (-16495 : ℤ) * 2 :=
    zpow_add_one₀ two_ne_zero (-16495)
  have hquarter : (2 : ℚ) ^ (-16495 : ℤ) = 2 ^ (-16496 : ℤ) * 2 :=
    zpow_add_one₀ two_ne_zero (-16496)
  have hpos : (0 : ℚ) < 2 ^ (-16496 : ℤ) := by positivity
  rw [sub_mul, ← hnormal, show (-16494 : ℤ) + (112 : ℕ) = -16382 by norm_num]
  linarith

end

end Sys2Proof.FP
end

section
/-! PROOFS. What `round` answers: the encoding of the rounded magnitude with its flags, or the infinity
(R104 to R106). -/

namespace Sys2Proof.FP

section
variable {r : ℚ} (hr : 0 < r)
include hr

/-- The flags of a result inside the range: none when exact, UF with NX when tiny as well (R104, R106). -/
def inRangeFlags (r : ℚ) : FlagBits :=
  if rounded r = r then 0 else if r < 2 ^ (-16382 : ℤ) - 2 ^ (-16496 : ℤ) then 0b00011 else 0b00001

omit hr in
theorem inRangeFlags_of_tiny (h : r < 2 ^ (-16382 : ℤ) - 2 ^ (-16496 : ℤ)) :
    Flag.when (rounded r ≠ r) (Flag.uf ||| Flag.nx) = inRangeFlags r := by
  by_cases hexact : rounded r = r
  · simp only [Flag.when, inRangeFlags, hexact, ne_eq, not_true, if_true, if_false]
    rfl
  · simp only [Flag.when, inRangeFlags, hexact, h, ne_eq, not_false_eq_true, if_true, if_false]
    rfl

theorem inRangeFlags_of_normal :
    Flag.when (rounded r ≠ r) Flag.nx |||
      Flag.when (Int.log 2 r < -16382 ∧ rounded r ≠ r ∧ tiny r = true) Flag.uf = inRangeFlags r := by
  have htiny := tiny_iff hr
  have hlog : r < 2 ^ (-16382 : ℤ) - 2 ^ (-16496 : ℤ) → Int.log 2 r < -16382 := fun h => by
    have hpos : (0 : ℚ) < 2 ^ (-16496 : ℤ) := by positivity
    rw [← Int.lt_zpow_iff_log_lt one_lt_two hr, Nat.cast_two]
    linarith
  by_cases hexact : rounded r = r
  · simp only [Flag.when, inRangeFlags, hexact, ne_eq, not_true, false_and, and_false, if_true, if_false]
    rfl
  · by_cases hlt : r < 2 ^ (-16382 : ℤ) - 2 ^ (-16496 : ℤ)
    · simp only [Flag.when, inRangeFlags, hexact, htiny, hlog hlt, hlt, ne_eq, not_false_eq_true, and_self,
        if_true, if_false]
      rfl
    · simp only [Flag.when, inRangeFlags, hexact, htiny, hlt, ne_eq, not_false_eq_true, and_false, if_true,
        if_false]
      rfl

/-- The significand `g` and exponent `qe` R104 packs for the magnitude `r`, after the carry. -/
structure Normalised (r : ℚ) (g : ℕ) (qe : ℤ) : Prop where
  lt : g < 2 ^ 113
  subnormal : g < 2 ^ 112 → qe = -16382
  min : -16382 ≤ qe
  value : (g : ℚ) * 2 ^ (qe - 112) = rounded r
  parity : g % 2 = quanta r % 2

omit hr in
theorem normalised_of_carry (h : quanta r = 2 ^ 113) :
    Normalised r (2 ^ 112) (quantumExp r + 112 + 1) where
  lt := by norm_num
  subnormal := fun hlt => absurd hlt (lt_irrefl _)
  min := by unfold quantumExp; omega
  value := by
    rw [rounded, h, show quantumExp r + 112 + 1 - 112 = quantumExp r + 1 by ring, zpow_add_one₀ two_ne_zero]
    push_cast
    ring
  parity := by rw [h]; rfl

theorem normalised_of_no_carry (h : quanta r ≠ 2 ^ 113) :
    Normalised r (quanta r) (quantumExp r + 112) where
  lt := lt_of_le_of_ne (nearestEven_div_le hr (by unfold quantumExp; omega)) h
  subnormal := fun hlt => by rw [(lt_of_quanta_lt hr hlt).1]; rfl
  min := by unfold quantumExp; omega
  value := by rw [rounded, add_sub_cancel_right]
  parity := rfl

/-- `round` packs the normalised significand, unless the exponent is beyond the format (R104 to R106). -/
theorem exists_round_eq (s : BitVec 1) : ∃ (g : ℕ) (qe : ℤ), Normalised r g qe ∧ round s r =
    if g < 2 ^ 112 then ⟨XF.pack s 0 (BitVec.ofNat 112 g), inRangeFlags r⟩
    else if 16384 ≤ qe then ⟨XF.inf s, 0b00101⟩
    else ⟨XF.pack s (BitVec.ofInt 15 (qe + 16383)) (BitVec.ofNat 112 g), inRangeFlags r⟩ := by
  have hqe0 : max (Int.log 2 r) (-16382) = quantumExp r + 112 := by unfold quantumExp; ring
  have hquanta : nearestEven (r / 2 ^ quantumExp r) = quanta r := rfl
  have hover (qe : ℤ) : qe + 16383 ≥ 0x7FFF ↔ 16384 ≤ qe := by omega
  have hflags := inRangeFlags_of_normal hr
  simp only [round, hqe0, add_sub_cancel_right, hquanta, ne_eq, ← rounded_eq_iff, hover, hflags]
  by_cases hcarry : quanta r = 2 ^ 113
  · refine ⟨_, _, normalised_of_carry hcarry, ?_⟩
    simp only [hcarry, if_true, lt_irrefl, if_false]
    rfl
  · refine ⟨_, _, normalised_of_no_carry hr hcarry, ?_⟩
    simp only [hcarry, if_false]
    split
    case isTrue hlt => rw [inRangeFlags_of_tiny (lt_of_quanta_lt hr hlt).2]
    case isFalse hge => rfl

omit hr in
theorem Normalised.le_exp {g : ℕ} {qe k : ℤ} (h : Normalised r g qe) (hk : 2 ^ k ≤ rounded r) : k ≤ qe := by
  have hlt : (2 : ℚ) ^ k < 2 ^ (qe - 112 + (113 : ℕ)) := by
    refine hk.trans_lt ?_
    rw [← h.value, two_zpow_add]
    gcongr
    exact h.lt
  have hexp := (zpow_lt_zpow_iff_right₀ one_lt_two).mp hlt
  omega

omit hr in
theorem Normalised.le_rounded {g : ℕ} {qe k : ℤ} (h : Normalised r g qe) (hg : 2 ^ 112 ≤ g) (hk : k ≤ qe) :
    2 ^ k ≤ rounded r := by
  have hle : (2 : ℚ) ^ k ≤ 2 ^ (qe - 112 + (112 : ℕ)) := zpow_le_zpow_right₀ one_le_two (by omega)
  refine hle.trans ?_
  rw [← h.value, two_zpow_add]
  gcongr

/-- `round` from the overflow bound on (R105). -/
theorem round_of_overflow (s : BitVec 1) (h : 2 ^ (16384 : ℤ) - 2 ^ (16270 : ℤ) ≤ r) :
    round s r = ⟨XF.inf s, 0b00101⟩ := by
  obtain ⟨g, qe, hnorm, hround⟩ := exists_round_eq hr s
  have hqe := hnorm.le_exp ((overflow_iff hr).mpr h)
  have hg : ¬ g < 2 ^ 112 := fun hlt => by
    have := hnorm.subnormal hlt
    omega
  rw [hround, if_neg hg, if_pos hqe]

/-- What an answer of `round` below the overflow bound is: the encoding of the rounded magnitude. -/
structure InRange (s : BitVec 1) (r : ℚ) (result : Result) : Prop where
  sign : result.value.sign = s
  finite : result.value.isFinite = true
  value : val result.value = signed s (rounded r)
  parity : result.value.frac.toNat % 2 = quanta r % 2
  flags : result.flags = inRangeFlags r

/-- `round` below the overflow bound (R104, R106). -/
theorem round_inRange (s : BitVec 1) (h : r < 2 ^ (16384 : ℤ) - 2 ^ (16270 : ℤ)) :
    InRange s r (round s r) := by
  obtain ⟨g, qe, hnorm, hround⟩ := exists_round_eq hr s
  obtain hlt | hge := lt_or_ge g (2 ^ 112)
  · rw [hround, if_pos hlt]
    refine ⟨XF.sign_pack .., by simp [XF.isFinite], ?_, ?_, rfl⟩
    · rw [val_pack_zero s hlt, ← hnorm.value, hnorm.subnormal hlt]
      rfl
    · rw [XF.frac_pack, BitVec.toNat_ofNat, Nat.mod_eq_of_lt hlt, hnorm.parity]
  · have hmax : qe < 16384 :=
      not_le.mp fun hqe => ((overflow_iff hr).mp (hnorm.le_rounded hge hqe)).not_gt h
    have hbexp := toNat_biased hnorm.min (show qe ≤ 16383 by omega)
    rw [hround, if_neg hge.not_gt, if_neg hmax.not_ge]
    refine ⟨XF.sign_pack .., ?_, ?_, ?_, rfl⟩
    · rw [XF.isFinite, bne_iff_ne, ne_eq, XF.bexp_eq_ones_iff, XF.bexp_pack]
      omega
    · rw [val_pack_normal s hge hnorm.lt hnorm.min (by omega), hnorm.value]
    · rw [XF.frac_pack, BitVec.toNat_ofNat, ← hnorm.parity]
      omega

end

end Sys2Proof.FP
end

section
/-! PROOFS. No finite encoding is nearer than the answer of `round`, and a tie goes to the even fraction
(R104). -/

namespace Sys2Proof.FP

section
variable {r : ℚ} (hr : 0 < r)
include hr

omit hr in
theorem abs_mul_sub_eq {q : ℤ} (x : ℚ) : |x * 2 ^ q - r| = |x - r / 2 ^ q| * 2 ^ q := by
  have hquantum : (0 : ℚ) < 2 ^ q := by positivity
  rw [← abs_of_pos hquantum, ← abs_mul, abs_of_pos hquantum, sub_mul, div_mul_cancel₀ _ hquantum.ne']

/-- An encoding with a finer last place than the quantum is below the first normal significand of that
quantum, which is not above the magnitude. -/
theorem abs_val_lt_of_ulpExp_lt {w : XF} (h : w.ulpExp < quantumExp r) :
    |val w| < (2 ^ 112 : ℕ) * 2 ^ quantumExp r ∧ (2 ^ 112 : ℕ) * 2 ^ quantumExp r ≤ r := by
  have hmin := w.ulpExp_ge
  have hlog : quantumExp r + (112 : ℕ) = Int.log 2 r := by
    unfold quantumExp at *
    omega
  refine ⟨?_, by rw [← two_zpow_add, hlog]; exact two_zpow_log_le hr⟩
  calc |val w| = w.significand * 2 ^ w.ulpExp := abs_val w
    _ < (2 ^ 113 : ℕ) * 2 ^ w.ulpExp := by gcongr; exact w.significand_lt
    _ = 2 ^ (w.ulpExp + (113 : ℕ)) := (two_zpow_add _ _).symm
    _ ≤ 2 ^ (quantumExp r + (112 : ℕ)) := zpow_le_zpow_right₀ one_le_two (by omega)
    _ = (2 ^ 112 : ℕ) * 2 ^ quantumExp r := two_zpow_add _ _

/-- The magnitude `x` is the rounded one, or farther from `r`, or as far from it as an even significand (the
choice R104 makes). -/
def NoNearer (r x : ℚ) : Prop :=
  x = rounded r ∨ |rounded r - r| < |x - r| ∨ |rounded r - r| = |x - r| ∧ quanta r % 2 = 0

omit hr in
theorem NoNearer.le {x : ℚ} (h : NoNearer r x) : |rounded r - r| ≤ |x - r| := by
  obtain heq | hfar | ⟨heq, -⟩ := h
  · rw [heq]
  · exact hfar.le
  · exact heq.le

theorem noNearer_of_quanta (k : ℕ) : NoNearer r (k * 2 ^ quantumExp r) := by
  have hquantum : (0 : ℚ) < 2 ^ quantumExp r := by positivity
  rw [NoNearer, rounded, abs_mul_sub_eq, abs_mul_sub_eq, mul_lt_mul_iff_left₀ hquantum,
    mul_left_inj' hquantum.ne', mul_left_inj' hquantum.ne', Nat.cast_inj]
  exact or_iff_not_imp_left.mpr (nearestEven_nearest (by positivity))

/-- No encoding is nearer than the rounded magnitude (R104). -/
theorem noNearer_abs_val (w : XF) : NoNearer r |val w| := by
  obtain hle | hlt := le_or_gt (quantumExp r) w.ulpExp
  · obtain ⟨a, ha⟩ := exists_val_eq_int_mul w hle
    have hwhole : |val w| = a.natAbs * 2 ^ quantumExp r := by
      rw [ha, abs_mul, abs_of_pos (show (0 : ℚ) < 2 ^ quantumExp r by positivity), Nat.cast_natAbs,
        Int.cast_abs]
    rw [hwhole]
    exact noNearer_of_quanta hr _
  · obtain ⟨hw, hr_ge⟩ := abs_val_lt_of_ulpExp_lt hr hlt
    have hcloser : |(2 ^ 112 : ℕ) * 2 ^ quantumExp r - r| < |(|val w|) - r| := by
      rw [abs_of_nonpos (by linarith), abs_of_nonpos (by linarith)]
      linarith
    exact .inr (.inl (lt_of_le_of_lt (noNearer_of_quanta hr (2 ^ 112)).le hcloser))

omit hr in
theorem abs_signed_sub_signed (s : BitVec 1) (x y : ℚ) : |signed s x - signed s y| = |x - y| := by
  obtain rfl | rfl := BitVec.eq_zero_or_eq_one s
  · simp
  · rw [signed_one_bit, signed_one_bit, neg_sub_neg, abs_sub_comm]

/-- A change of sign only takes an encoding farther away. -/
theorem abs_abs_val_sub_le (s : BitVec 1) (w : XF) : |(|val w|) - r| ≤ |val w - signed s r| := by
  have h := abs_abs_sub_abs_le (val w) (signed s r)
  rwa [abs_signed, abs_of_pos hr] at h

section
variable {s : BitVec 1} {result : Result} (h : InRange s r result)
include h

omit hr in
theorem InRange.abs_val_sub : |val result.value - signed s r| = |rounded r - r| := by
  rw [h.value, abs_signed_sub_signed]

theorem InRange.nearest : Nearest result.value ((signed s r : ℚ) : ℝ) := by
  refine ⟨h.finite, fun w _ => ?_⟩
  have hle : |val result.value - signed s r| ≤ |val w - signed s r| := by
    rw [h.abs_val_sub]
    exact (noNearer_abs_val hr w).le.trans (abs_abs_val_sub_le hr s w)
  exact_mod_cast hle

theorem InRange.even_of_tie {w : XF} (hs : w.sign = s) (hne : w ≠ result.value)
    (htie : |val w - signed s r| = |val result.value - signed s r|) :
    result.value.frac.toNat % 2 = 0 := by
  have hw : |val w - signed s r| = |(|val w|) - r| := by
    rw [← signed_sign_abs_val w, hs, abs_signed_sub_signed, abs_signed, abs_abs]
  rw [hw, h.abs_val_sub] at htie
  rw [h.parity]
  obtain heq | hfar | ⟨-, heven⟩ := noNearer_abs_val hr w
  · have hmag : |val result.value| = rounded r := by
      rw [h.value, abs_signed, abs_of_nonneg (rounded_nonneg r)]
    exact absurd (eq_of_sign_eq_of_abs_val_eq (hs.trans h.sign.symm) (heq.trans hmag.symm)) hne
  · exact absurd htie hfar.ne'
  · exact heven

omit hr in
theorem InRange.val_eq_iff : val result.value = signed s r ↔ rounded r = r := by
  rw [← sub_eq_zero, ← abs_eq_zero, h.abs_val_sub, abs_eq_zero, sub_eq_zero]

end

end

/-- Settles O14: below the overflow bound `round` packs the rounded magnitude, which no encoding's magnitude
beats, and a change of sign only takes an encoding farther away. -/
theorem roundGivesTheNearestEncoding : Obligations.RoundGivesTheNearestEncoding := by
  refine ⟨fun s r hr => ⟨fun hlt => ?_, round_of_overflow hr s⟩, fun q hq => if_neg hq, if_pos rfl⟩
  have h := round_inRange hr s hlt
  refine ⟨h.sign, h.nearest hr, fun w _ hs hne htie => h.even_of_tie hr hs hne htie, ?_⟩
  rw [h.flags, inRangeFlags]
  simp only [h.val_eq_iff]

end Sys2Proof.FP
end

section
/-! PROOFS. The bit_decomposer: `DECOMP` splits an encoding into its fields (R140, R141), `NORM` shifts its
significand left until bit 112 is set and lowers the exponent by as much (R142). -/

namespace Sys2Proof

namespace XF

/-! The fields of an encoding, as numbers and in the word view (R20, R21, R141) -/

theorem pack_fields (v : XF) : pack v.sign v.bexp v.frac = v :=
  eq_of_fields_eq (sign_pack ..) (bexp_pack ..) (frac_pack ..)

theorem toNat_eq_fields (v : XF) :
    v.toNat = v.sign.toNat * 2 ^ 127 + v.bexp.toNat * 2 ^ 112 + v.frac.toNat := by
  rw [← toNat_pack, pack_fields]

theorem w0_toNat (v : XF) : v.w0.toNat = v.toNat / 2 ^ 96 := by
  have hv := v.isLt
  rw [w0, BitVec.extractLsb'_toNat, Nat.shiftRight_eq_div_pow]
  omega

theorem w0_toNat_eq_fields (v : XF) :
    v.w0.toNat = v.sign.toNat * 2 ^ 31 + v.bexp.toNat * 2 ^ 16 + v.frac.toNat / 2 ^ 96 := by
  rw [w0_toNat, toNat_eq_fields]
  omega

theorem frac_eq_words (v : XF) : v.frac = v.w0.extractLsb' 0 16 ++ v.w1 ++ v.w2 ++ v.w3 := by
  have hlow : v.w0.extractLsb' 0 16 = v.extractLsb' 96 16 :=
    BitVec.eq_of_getLsbD_eq fun i hi => by simp [w0, hi, show i < 32 by omega]
  have hw1 : v.extractLsb' 96 16 ++ v.w1 = v.extractLsb' 64 48 :=
    BitVec.extractLsb'_append_extractLsb'_eq_extractLsb' rfl
  have hw2 : v.extractLsb' 64 48 ++ v.w2 = v.extractLsb' 32 80 :=
    BitVec.extractLsb'_append_extractLsb'_eq_extractLsb' rfl
  have hw3 : v.extractLsb' 32 80 ++ v.w3 = v.extractLsb' 0 112 :=
    BitVec.extractLsb'_append_extractLsb'_eq_extractLsb' rfl
  rw [hlow, hw1, hw2, hw3, frac]

/-! The count of leading zeros (R142) -/

section
variable {f : BitVec 112} (hf : f ≠ 0)
include hf

theorem leadingZeros_le : leadingZeros f ≤ 111 := by
  rw [leadingZeros, if_neg hf]
  exact Nat.sub_le _ _

/-- The leading one of a fraction stands right below its leading zeros. -/
theorem leadingZeros_bounds :
    2 ^ (111 - leadingZeros f) ≤ f.toNat ∧ f.toNat < 2 ^ (112 - leadingZeros f) := by
  have hne : f.toNat ≠ 0 := fun h => hf (BitVec.eq_of_toNat_eq h)
  have hlog : f.toNat.log2 < 112 := (Nat.log2_lt hne).mpr f.isLt
  have hlz : leadingZeros f = 111 - f.toNat.log2 := if_neg hf
  have hle : 111 - leadingZeros f = f.toNat.log2 := by omega
  have hlt : 112 - leadingZeros f = f.toNat.log2 + 1 := by omega
  rw [hle, hlt]
  exact (Nat.log2_eq_iff hne).mp rfl

/-- Shifted by one place more than its leading zeros, a fraction has bit 112 as its leading one. -/
theorem shifted_bounds : 2 ^ 112 ≤ f.toNat * 2 ^ (leadingZeros f + 1) ∧
    f.toNat * 2 ^ (leadingZeros f + 1) < 2 ^ 113 := by
  have hlz := leadingZeros_le hf
  obtain ⟨hle, hlt⟩ := leadingZeros_bounds hf
  constructor
  · calc 2 ^ 112 = 2 ^ (111 - leadingZeros f) * 2 ^ (leadingZeros f + 1) := by
          rw [← pow_add, show 111 - leadingZeros f + (leadingZeros f + 1) = 112 by omega]
      _ ≤ f.toNat * 2 ^ (leadingZeros f + 1) := Nat.mul_le_mul_right _ hle
  · calc f.toNat * 2 ^ (leadingZeros f + 1)
        < 2 ^ (112 - leadingZeros f) * 2 ^ (leadingZeros f + 1) :=
          Nat.mul_lt_mul_of_pos_right hlt (by positivity)
      _ = 2 ^ 113 := by
          rw [← pow_add, show 112 - leadingZeros f + (leadingZeros f + 1) = 113 by omega]

end

end XF

namespace Machine

theorem readReg_of_holding {α : Type} {name : Reg} {r : Register α} {v : α} {k : α → Result}
    (h : r = .holding v) : readReg name r k = k v := by
  subst h
  rfl

/-! `DECOMP` -/

theorem exec_decomp {s : State} {x : XF} (hx : s.x = .holding x) :
    exec .decomp s = .next { s with
      sgn := .holding x.sign, bexp := .holding x.bexp, frac := .holding x.frac, step := 2 } := by
  change execDecomp s = _
  rw [execDecomp, readReg_of_holding hx]
  rfl

/-- Settles O21: `DECOMP` is three register writes, and the fields rebuild the word. -/
theorem decompSplitsTheOperand : Obligations.DecompSplitsTheOperand := fun _ x hx =>
  ⟨exec_decomp hx, x.pack_fields, x.toNat_eq_fields, x.w0_toNat_eq_fields, x.frac_eq_words⟩

/-! `NORM` -/

theorem exec_norm {s : State} {bexp : BitVec 15} {frac : BitVec 112} (hb : s.bexp = .holding bexp)
    (hf : s.frac = .holding frac) :
    exec .norm s = .next { s with
      e0 := .holding (normalise bexp frac).1, sig := .holding (normalise bexp frac).2, step := 8 } := by
  change execNorm s = _
  rw [execNorm, readReg_of_holding hb, readReg_of_holding hf]
  rfl

theorem toInt_normalOperand (bexp : BitVec 15) (frac : BitVec 112) :
    (normalOperand bexp frac).1.toInt = (bexp.toNat : ℤ) - 16383 := by
  have hb := bexp.isLt
  have hwiden : (bexp.setWidth 16).toInt = bexp.toNat := by
    rw [BitVec.toInt_setWidth, Int.bmod_eq_of_le (by omega) (by omega)]
  have hbias : (16383 : BitVec 16).toInt = 16383 := rfl
  rw [normalOperand, BitVec.toInt_sub, hwiden, hbias, Int.bmod_eq_of_le (by omega) (by omega)]

theorem toNat_normalOperand (bexp : BitVec 15) (frac : BitVec 112) :
    (normalOperand bexp frac).2.toNat = 2 ^ 112 + frac.toNat :=
  Laws.MatchesRow.append_toNat 1#1 frac

section
variable {frac : BitVec 112} (hf : frac ≠ 0)
include hf

theorem toInt_subnormalOperand :
    (subnormalOperand frac).1.toInt = -16382 - ((XF.leadingZeros frac : ℤ) + 1) := by
  have hlz := XF.leadingZeros_le hf
  exact BitVec.toInt_ofInt_eq_self (by decide) (by omega) (by omega)

theorem toNat_subnormalOperand :
    (subnormalOperand frac).2.toNat = frac.toNat * 2 ^ (XF.leadingZeros frac + 1) := by
  obtain ⟨-, hlt⟩ := XF.shifted_bounds hf
  change (frac.setWidth 113 <<< (XF.leadingZeros frac + 1)).toNat = _
  rw [BitVec.toNat_shiftLeft, BitVec.toNat_setWidth_of_le (by omega), Nat.shiftLeft_eq, Nat.mod_eq_of_lt hlt]

end

/-- `(E0, SIG)` is the significand of `x` shifted left by `d` places, which has brought its leading one to
bit 112, and the exponent that makes up for the shift (R142). -/
structure ShiftedBy (x : XF) (d : ℕ) (e0 : ℤ) (sig : ℕ) : Prop where
  places : d ≤ 112
  exponent : e0 = x.ulpExp + 112 - d
  significand : sig = x.significand * 2 ^ d
  leading : 2 ^ 112 ≤ sig

namespace ShiftedBy
variable {x : XF} {d : ℕ} {e0 : ℤ} {sig : ℕ} (h : ShiftedBy x d e0 sig)
include h

/-- The shift changes no value. -/
theorem val_eq (hs : x.sign = 0) : FP.val x = 2 ^ e0 * ((sig : ℚ) / 2 ^ 112) := by
  have hexp : x.ulpExp + (112 : ℕ) = e0 + d := by
    have := h.exponent
    omega
  have hpow : (2 : ℚ) ^ x.ulpExp * 2 ^ 112 = 2 ^ e0 * 2 ^ d := by
    rw [← zpow_natCast, ← zpow_natCast, ← zpow_add₀ two_ne_zero, ← zpow_add₀ two_ne_zero, hexp]
  rw [FP.val_of_sign_zero hs, FP.abs_val, h.significand, ← mul_div_assoc, eq_div_iff (by positivity),
    mul_assoc, hpow]
  push_cast
  ring

theorem exponent_ge : -16494 ≤ e0 := by
  have hulp := x.ulpExp_ge
  have hd := h.places
  have he := h.exponent
  omega

theorem exponent_le (hfin : x.isFinite = true) : e0 ≤ 16383 := by
  have hb := x.bexp.isLt
  have hne : x.bexp.toNat ≠ 0x7FFF := by
    rw [XF.isFinite, bne_iff_ne, ne_eq, XF.bexp_eq_ones_iff] at hfin
    exact hfin
  have he := h.exponent
  unfold XF.ulpExp at he
  omega

end ShiftedBy

theorem normalOperand_shiftedBy {x : XF} (hb : x.bexp ≠ 0) :
    ShiftedBy x 0 (normalOperand x.bexp x.frac).1.toInt (normalOperand x.bexp x.frac).2.toNat where
  places := Nat.zero_le _
  exponent := by
    have hpos := mt x.bexp_eq_zero_iff.mpr hb
    rw [toInt_normalOperand, XF.ulpExp]
    omega
  significand := by rw [toNat_normalOperand, XF.significand, if_neg hb, pow_zero, mul_one]
  leading := by
    rw [toNat_normalOperand]
    exact Nat.le_add_right _ _

theorem subnormalOperand_shiftedBy {x : XF} (hb : x.bexp = 0) (hf : x.frac ≠ 0) :
    ShiftedBy x (XF.leadingZeros x.frac + 1) (subnormalOperand x.frac).1.toInt
      (subnormalOperand x.frac).2.toNat where
  places := Nat.succ_le_succ (XF.leadingZeros_le hf)
  exponent := by
    have hzero := x.bexp_eq_zero_iff.mp hb
    rw [toInt_subnormalOperand hf, XF.ulpExp]
    omega
  significand := by rw [toNat_subnormalOperand hf, XF.significand, if_pos hb]
  leading := by
    rw [toNat_subnormalOperand hf]
    exact (XF.shifted_bounds hf).1

theorem posFinite_iff (x : XF) :
    posFinite x = true ↔ x.sign = 0 ∧ x.isFinite = true ∧ (x.bexp = 0 → x.frac ≠ 0) := by
  simp [posFinite, XF.isZero, and_assoc, imp_iff_not_or]

/-- Settles O22: on each branch of R142 `(E0, SIG)` is the operand's significand shifted until bit 112 is set,
by no place for a normal operand and by `lz + 1` places for a subnormal one. -/
theorem normGivesTheNormalisedSignificand : Obligations.NormGivesTheNormalisedSignificand := by
  intro s x hx hb hf
  obtain ⟨hsign, hfin, hfrac⟩ := (posFinite_iff x).mp hx
  refine ⟨_, _, exec_norm hb hf, ?_⟩
  by_cases hzero : x.bexp = 0
  · have hf0 := hfrac hzero
    have hshift := subnormalOperand_shiftedBy hzero hf0
    obtain ⟨hle, hlt⟩ := XF.leadingZeros_bounds hf0
    rw [normalise, if_neg (not_not.mpr hzero)]
    exact ⟨fun hne => absurd hzero hne,
      fun _ => ⟨_, XF.leadingZeros_le hf0, hle, hlt, toNat_subnormalOperand hf0,
        toInt_subnormalOperand hf0⟩,
      hshift.leading, hshift.val_eq hsign, hshift.exponent_ge, hshift.exponent_le hfin⟩
  · have hshift := normalOperand_shiftedBy hzero
    rw [normalise, if_pos hzero]
    exact ⟨fun _ => ⟨toInt_normalOperand .., toNat_normalOperand ..⟩, fun h => absurd h hzero,
      hshift.leading, hshift.val_eq hsign, hshift.exponent_ge, hshift.exponent_le hfin⟩

end Machine

end Sys2Proof
end

section
/-! PROOFS. The special_case_classifier: the tests of `CLASSIFY` on the fields and on the words (R160), and the
exits of the special classes, each a case of one primitive that rounds nothing (R162 to R165). -/

namespace Sys2Proof

namespace XF

/-! The word forms of the tests of R160 -/

/-- `K0` is `W0` without the sign bit (R73). -/
theorem k0_toNat (v : XF) : v.k0.toNat = v.w0.toNat % 2 ^ 31 := by
  rw [k0, BitVec.toNat_and]
  exact Nat.and_two_pow_sub_one_eq_mod _ 31

theorem mag_eq_words (v : XF) :
    v.mag.toNat = v.k0.toNat * 2 ^ 96 + v.w1.toNat * 2 ^ 64 + v.w2.toNat * 2 ^ 32 + v.w3.toNat := by
  rw [mag_toNat, k0_toNat, w0_toNat]
  simp only [w1, w2, w3, BitVec.extractLsb'_toNat, Nat.shiftRight_eq_div_pow]
  omega

theorem isZero_iff_mag (v : XF) : v.isZero = true ↔ v.mag.toNat = 0 := by
  simp only [isZero, Bool.and_eq_true, beq_iff_eq, bexp_eq_zero_iff, frac_eq_zero_iff, mag_eq]
  omega

theorem isZero_iff_words (v : XF) : v.isZero = true ↔ v.k0 ||| v.w1 ||| v.w2 ||| v.w3 = 0 := by
  rw [isZero_iff_mag, mag_eq_words]
  simp only [BitVec.ofNat_eq_ofNat, BitVec.or_eq_zero_iff]
  simp only [← BitVec.toNat_inj, BitVec.toNat_zero]
  omega

theorem sign_eq_one_iff_w0 (v : XF) : v.sign = 1 ↔ v.w0.getLsbD 31 = true := by
  have hbit : v.w0.getLsbD 31 = v.sign.getLsbD 0 := by simp [w0, sign]
  rw [hbit]
  obtain h | h := BitVec.eq_zero_or_eq_one v.sign <;> rw [h] <;> decide

theorem not_isFinite_iff_k0 (v : XF) : v.isFinite = false ↔ 0x7FFF0000 ≤ v.k0.toNat := by
  have h1 := v.w1.isLt
  have h2 := v.w2.isLt
  have h3 := v.w3.isLt
  rw [← Bool.not_eq_true, isFinite_iff_mag, mag_eq_words]
  omega

/-! The classes of encodings (R101) -/

theorem isFinite_of_isZero {v : XF} (h : v.isZero = true) : v.isFinite = true := by
  rw [isZero_iff_mag] at h
  rw [isFinite_iff_mag, h]
  decide

theorem isInf_or_isNaN_of_not_isFinite {v : XF} (h : v.isFinite = false) :
    v.isInf = true ∨ v.isNaN = true := by
  have hb : v.bexp = 0x7FFF := by simpa [isFinite] using h
  simp [isInf, isNaN, hb, em]

theorem isQuietNaN_or_isSignallingNaN {v : XF} (h : v.isNaN = true) :
    v.isQuietNaN = true ∨ v.isSignallingNaN = true := by
  simp [isQuietNaN, isSignallingNaN, h]

end XF

namespace FP

/-! A NaN as the first operand (R107), `x - x` (R109), `x + x` on the non-finite (R108), `fdiv` by a zero
(R111) -/

theorem nanprop_of_isQuietNaN {a b : XF} (ha : a.isQuietNaN = true) (hb : b.isSignallingNaN = false) :
    nanprop a b = ⟨a, 0⟩ := by
  rw [nanprop, if_pos (XF.isNaN_of_isQuietNaN ha), XF.quiet_of_isQuietNaN ha,
    XF.isSignallingNaN_of_isQuietNaN ha, hb]
  rfl

theorem nanprop_of_isSignallingNaN {a : XF} (b : XF) (ha : a.isSignallingNaN = true) :
    nanprop a b = ⟨a.quiet, Flag.nv⟩ := by
  rw [nanprop, if_pos (XF.isNaN_of_isSignallingNaN ha), Flag.when, if_pos (.inl ha)]

theorem nanprop_self_of_isQuietNaN {x : XF} (h : x.isQuietNaN = true) : nanprop x x = ⟨x, 0⟩ :=
  nanprop_of_isQuietNaN h (XF.isSignallingNaN_of_isQuietNaN h)

theorem fsub_self (dn x : XF) : fsub dn x x =
    if x.isFinite then ⟨0, 0⟩ else if x.isInf then ⟨dn, Flag.nv⟩
      else if x.isQuietNaN then ⟨x, 0⟩ else ⟨x.quiet, Flag.nv⟩ := by
  split_ifs with hfin hinf hquiet
  · exact fsub_self_of_isFinite dn hfin
  · exact fsub_self_of_isInf dn hinf
  · rw [fsub_eq_nanprop (.inl (XF.isNaN_of_isQuietNaN hquiet)), nanprop_self_of_isQuietNaN hquiet]
  · rw [Bool.not_eq_true] at hfin
    have hnan := (XF.isInf_or_isNaN_of_not_isFinite hfin).resolve_left hinf
    have hsig := (XF.isQuietNaN_or_isSignallingNaN hnan).resolve_left hquiet
    rw [fsub_eq_nanprop (.inl hnan), nanprop_of_isSignallingNaN x hsig]

theorem fadd_self_of_not_isFinite (dn : XF) {x : XF} (hfin : x.isFinite = false) : fadd dn x x =
    if x.isSignallingNaN then ⟨x.quiet, Flag.nv⟩ else ⟨x, 0⟩ := by
  split_ifs with hsig
  · rw [fadd_eq_nanprop (.inl (XF.isNaN_of_isSignallingNaN hsig)), nanprop_of_isSignallingNaN x hsig]
  obtain hinf | hnan := XF.isInf_or_isNaN_of_not_isFinite hfin
  · simp [fadd, XF.isNaN_of_isInf hinf, hinf, Flag.none]
  · have hquiet := (XF.isQuietNaN_or_isSignallingNaN hnan).resolve_right hsig
    rw [fadd_eq_nanprop (.inl hnan), nanprop_self_of_isQuietNaN hquiet]

theorem fdiv_of_isZero (dn : XF) {a b : XF} (ha : a.isFinite = true) (hb : b.isZero = true) :
    fdiv dn a b = if a.isZero then ⟨dn, Flag.nv⟩ else ⟨XF.inf (a.sign ^^^ b.sign), Flag.dz⟩ := by
  have hb' := XF.isFinite_of_isZero hb
  simp [fdiv, XF.isNaN_of_isFinite, XF.isInf_of_isFinite, ha, hb, hb', invalid]

end FP

namespace Machine

/-! `CLASSIFY` -/

theorem exec_classify {s : State} {sgn : BitVec 1} {bexp : BitVec 15} {frac : BitVec 112}
    (hs : s.sgn = .holding sgn) (hb : s.bexp = .holding bexp) (hf : s.frac = .holding frac) :
    exec .classify s = .next { s with
      cls := .holding (classOf sgn bexp frac), step := classSuccessor (classOf sgn bexp frac) } := by
  change execClassify s = _
  rw [execClassify, readReg_of_holding hs, readReg_of_holding hb, readReg_of_holding hf]
  rfl

theorem classOf_fields (x : XF) : classOf x.sign x.bexp x.frac =
    if x.isZero then .zero else if x.sign = 1 then .neg
      else if x.isFinite = false then .special else .posfin := by
  simp [classOf, XF.isZero, XF.isFinite]

/-- Settles O23: the class decides the successor, and the word forms are facts about the encoding. -/
theorem classifyTestsInOrder : Obligations.ClassifyTestsInOrder := by
  intro s x hs hb hf
  refine ⟨?_, x.isZero_iff_words, x.sign_eq_one_iff_w0, x.not_isFinite_iff_k0⟩
  rw [exec_classify hs hb hf, classOf_fields]
  split_ifs <;> rfl

/-! The special exits: what each primitive's result becomes in the state -/

theorem State.raise_zero (s : State) : s.raise 0 = s :=
  congrArg (fun f : FlagBits => { s with facc := f }) BitVec.or_zero

theorem State.fpTmp_no_flag (s : State) (v : XF) : s.fpTmp ⟨v, 0⟩ = s.writeTmp v :=
  congrArg (fun t : State => t.writeTmp v) s.raise_zero

theorem State.fpY_no_flag (s : State) (v : XF) : s.fpY ⟨v, 0⟩ = s.writeY v :=
  congrArg (fun t : State => t.writeY v) s.raise_zero

theorem exec_spcZero (s : State) :
    exec .spcZero s = .next ((s.fpY (FP.fdiv s.params.defaultNan constMhalf constZero)).goto 55) := rfl

theorem exec_spcNeg1 {s : State} {x : XF} (hx : s.x = .holding x) :
    exec .spcNeg1 s = .next ((s.fpTmp (FP.fsub s.params.defaultNan x x)).goto 5) := by
  change execSpcNeg1 s = _
  rw [execSpcNeg1, readReg_of_holding hx]

theorem exec_spcNeg2 {s : State} {v : XF} (hv : s.tmp = .holding v) :
    exec .spcNeg2 s = .next ((s.fpY (FP.fdiv s.params.defaultNan v constZero)).goto 55) := by
  change execSpcNeg2 s = _
  rw [execSpcNeg2, readReg_of_holding hv, readRom_const0]

theorem exec_spcInfnan {s : State} {x : XF} (hx : s.x = .holding x) :
    exec .spcInfnan s = .next ((s.fpY (FP.fadd s.params.defaultNan x x)).goto 55) := by
  change execSpcInfnan s = _
  rw [execSpcInfnan, readReg_of_holding hx]

theorem fdiv_constMhalf_constZero (dn : XF) :
    FP.fdiv dn constMhalf constZero = ⟨0xFFFF0000000000000000000000000000, Flag.dz⟩ :=
  FP.fdiv_of_isZero dn (by decide) (by decide)

/-- Settles O24: a finite non-zero operand over a zero is an infinity with DZ, of the sign that the two signs
give. -/
theorem spcZeroGivesMinusInfinity : Obligations.SpcZeroGivesMinusInfinity := by
  intro s
  refine ⟨?_, fdiv_constMhalf_constZero _⟩
  rw [exec_spcZero, fdiv_constMhalf_constZero]
  rfl

/-- Settles O25: `x - x` by the class of `x`, then a zero or a quiet NaN over `+0`. -/
theorem negativeOperandSteps : Obligations.NegativeOperandSteps := by
  refine ⟨fun s x hx => ?_, fun s hs => ?_, fun s v hs hquiet => ?_⟩
  · rw [exec_spcNeg1 hx, FP.fsub_self]
    split_ifs
    · rw [State.fpTmp_no_flag]
      rfl
    · rfl
    · rw [State.fpTmp_no_flag]
      rfl
    · rfl
  · rw [exec_spcNeg2 hs, FP.fdiv_of_isZero _ (by decide) (by decide)]
    rfl
  · have hnan := XF.isNaN_of_isQuietNaN hquiet
    rw [exec_spcNeg2 hs, FP.fdiv_eq_nanprop (.inl hnan), FP.nanprop_of_isQuietNaN hquiet (by decide),
      State.fpY_no_flag]
    rfl

/-- Settles O26: an infinity and a quiet NaN stay as they are, a signalling NaN is quieted. -/
theorem infinityAndNanSteps : Obligations.InfinityAndNanSteps := by
  intro s x hx hfin
  rw [exec_spcInfnan hx, FP.fadd_self_of_not_isFinite _ hfin]
  split_ifs
  · rfl
  · rw [State.fpY_no_flag]
    rfl

end Machine

end Sys2Proof
end

section
/-! PROOFS. Sums and differences that are exact (R108, R109): one on the grid of the format needs no rounding,
in particular the difference of two near operands (R115 (a), (b)). -/

namespace Sys2Proof.FP

/-- An exact result is its encoding with no flag. -/
theorem Exact.eq_value {r : Result} {q : ℚ} (h : Exact r q) : r = ⟨r.value, 0⟩ :=
  congrArg (Result.mk r.value) h.flags

theorem signed_neg_sign_abs (r : ℚ) : signed (if r < 0 then 1 else 0) |r| = r := by
  split
  case isTrue hneg => rw [abs_of_neg hneg]; exact (signed_one_bit _).trans (neg_neg r)
  case isFalse hnonneg => rw [abs_of_nonneg (not_lt.mp hnonneg)]; exact signed_zero_bit r

theorem val_of_isZero {v : XF} (h : v.isZero = true) : val v = 0 :=
  abs_nonpos_iff.mp ((abs_val_le_zero_iff v).mpr ((XF.isZero_iff_mag v).mp h))

/-- A sum of finite operands with at most 113 significant bits is exact (R108). -/
theorem fadd_exact (dn : XF) {a b : XF} {n q : ℤ} (ha : a.isFinite = true) (hb : b.isFinite = true)
    (hsum : val a + val b = n * 2 ^ q) (hn : |n| < 2 ^ 113) (hmin : -16494 ≤ q) (hmax : q ≤ 16271) :
    Exact (fadd dn a b) (val a + val b) := by
  rw [fadd_of_isFinite dn ha hb]
  by_cases hzero : val a + val b = 0
  · rw [if_pos hzero, hzero]
    split
    case isTrue hsame => exact ⟨rfl, ha, val_of_isZero hsame.1⟩
    case isFalse => exact ⟨rfl, rfl, val_zero 0⟩
  · have habs : |val a + val b| = n.natAbs * 2 ^ q := by
      rw [hsum, abs_mul, abs_of_pos (show (0 : ℚ) < 2 ^ q by positivity), Nat.cast_natAbs, Int.cast_abs]
    have hpos : 0 < n.natAbs := Int.natAbs_pos.mpr fun h => hzero (by rw [hsum, h, Int.cast_zero, zero_mul])
    have hlt : n.natAbs < 2 ^ 113 := by
      rw [Int.abs_eq_natAbs] at hn
      exact_mod_cast hn
    have hround := round_exact (if val a + val b < 0 then 1 else 0) hpos hlt hmin hmax
    rw [← habs, signed_neg_sign_abs] at hround
    rwa [if_neg hzero]

/-- A difference of finite operands with at most 113 significant bits is exact (R109). -/
theorem fsub_exact (dn : XF) {a b : XF} {n q : ℤ} (ha : a.isFinite = true) (hb : b.isFinite = true)
    (hdiff : val a - val b = n * 2 ^ q) (hn : |n| < 2 ^ 113) (hmin : -16494 ≤ q) (hmax : q ≤ 16271) :
    Exact (fsub dn a b) (val a - val b) := by
  have hneg : b.neg.isFinite = true := by simpa [XF.isFinite] using hb
  rw [fsub_eq_fadd_neg dn (XF.isNaN_of_isFinite ha) (XF.isNaN_of_isFinite hb)]
  rw [sub_eq_add_neg, ← val_neg] at hdiff ⊢
  exact fadd_exact dn ha hneg hdiff hn hmin hmax

/-- Equal finite operands that are no zeros differ by +0 (R109). -/
theorem fsub_of_val_eq (dn : XF) {a b : XF} (ha : a.isFinite = true) (hb : b.isFinite = true)
    (heq : val a = val b) (hne : val a ≠ 0) : fsub dn a b = ⟨0, 0⟩ := by
  have hneg : b.neg.isFinite = true := by simpa [XF.isFinite] using hb
  rw [fsub_eq_fadd_neg dn (XF.isNaN_of_isFinite ha) (XF.isNaN_of_isFinite hb), fadd_of_isFinite dn ha hneg,
    val_neg, heq, add_neg_cancel, if_pos rfl, if_neg fun hzero => hne (val_of_isZero hzero.1)]
  rfl

/-- The last place of an encoding is at most 112 places below its leading bit. -/
theorem sub_le_ulpExp_of_two_zpow_le {v : XF} {k : ℤ} (h : 2 ^ k ≤ |val v|) : k - 112 ≤ v.ulpExp := by
  have hlt : (2 : ℚ) ^ k < 2 ^ (v.ulpExp + (113 : ℕ)) :=
    calc (2 : ℚ) ^ k ≤ v.significand * 2 ^ v.ulpExp := (abs_val v) ▸ h
      _ < (2 ^ 113 : ℕ) * 2 ^ v.ulpExp := by gcongr; exact v.significand_lt
      _ = 2 ^ (v.ulpExp + (113 : ℕ)) := (two_zpow_add _ _).symm
  have hexp := (zpow_lt_zpow_iff_right₀ one_lt_two).mp hlt
  omega

section
variable {a b : XF} {k : ℤ} (ha : 2 ^ k ≤ |val a|) (hb : 2 ^ k ≤ |val b|)
include ha hb

theorem exists_val_sub_eq_int_mul : ∃ n : ℤ, val a - val b = n * 2 ^ (k - 112) := by
  obtain ⟨m, hm⟩ := exists_val_eq_int_mul a (sub_le_ulpExp_of_two_zpow_le ha)
  obtain ⟨n, hn⟩ := exists_val_eq_int_mul b (sub_le_ulpExp_of_two_zpow_le hb)
  exact ⟨m - n, by rw [hm, hn, Int.cast_sub, sub_mul]⟩

/-- Different values from `2^k` upwards are at least a last place of `2^k` apart. -/
theorem two_zpow_le_abs_val_sub (hne : val a ≠ val b) : 2 ^ (k - 112) ≤ |val a - val b| := by
  obtain ⟨n, hn⟩ := exists_val_sub_eq_int_mul ha hb
  have hpos : (0 : ℚ) < 2 ^ (k - 112) := by positivity
  have hn0 : n ≠ 0 := fun h => hne (sub_eq_zero.mp (by rw [hn, h, Int.cast_zero, zero_mul]))
  rw [hn, abs_mul, abs_of_pos hpos]
  exact le_mul_of_one_le_left hpos.le (by exact_mod_cast Int.one_le_abs hn0)

/-- Operands from `2^k` upwards that differ by less than `2^(k+1)` differ by a whole number, below `2^113`, of
the last places of `2^k`, so their difference is exact (R115 (a), (b)). -/
theorem fsub_exact_of_near (dn : XF) (hfa : a.isFinite = true) (hfb : b.isFinite = true)
    (hnear : |val a - val b| < 2 ^ (k + 1)) (hmin : -16382 ≤ k) (hmax : k ≤ 16383) :
    Exact (fsub dn a b) (val a - val b) := by
  obtain ⟨n, hn⟩ := exists_val_sub_eq_int_mul ha hb
  have hpos : (0 : ℚ) < 2 ^ (k - 112) := by positivity
  have hlt : |n| < 2 ^ 113 := by
    have htop : (2 : ℚ) ^ (k + 1) = (2 ^ 113 : ℕ) * 2 ^ (k - 112) := by
      rw [← two_zpow_add]
      congr 1
      omega
    rw [hn, abs_mul, abs_of_pos hpos, htop, mul_lt_mul_iff_left₀ hpos] at hnear
    exact_mod_cast hnear
  exact fsub_exact dn hfa hfb hn hlt (by omega) (by omega)

end

end Sys2Proof.FP
end

section
/-! PROOFS. The range_reducer_with_lut: the index arithmetic of `INDEX` (R182), the bit patterns of `TBUILD`
(R187), and the exact differences of `ZNEAR` and `ZSUB` (R193, R194). -/

namespace Sys2Proof.Machine

/-! `INDEX` -/

theorem toNat_m17 (sig : BitVec 113) : (sig.extractLsb' 96 17).toNat = sig.toNat / 2 ^ 96 := by
  have hlt := sig.isLt
  rw [BitVec.extractLsb'_toNat, Nat.shiftRight_eq_div_pow]
  omega

theorem lt_tierThreshold_iff (m17 : BitVec 17) : m17 < tierThreshold ↔ m17.toNat < 0x16800 := BitVec.lt_def

theorem toNat_tierAIndex {m17 : BitVec 17} (hmin : 0x10000 ≤ m17.toNat) (h : m17.toNat < 0x16800) :
    (tierAIndex m17).toNat = (m17.toNat - 0xFF00) / 2 ^ 9 := by
  have hsub : (m17 - 0xFF00).toNat = m17.toNat - 0xFF00 :=
    BitVec.toNat_sub_of_le (BitVec.le_def.mpr (hmin.trans' (by decide)))
  rw [tierAIndex, BitVec.toNat_setWidth, BitVec.toNat_ushiftRight, hsub, Nat.shiftRight_eq_div_pow]
  omega

theorem toNat_tierBIndex {m17 : BitVec 17} (h : 0x16800 ≤ m17.toNat) :
    (tierBIndex m17).toNat = (m17.toNat - 0xFE00) / 2 ^ 10 := by
  have hlt := m17.isLt
  have hsub : (m17 - 0xFE00).toNat = m17.toNat - 0xFE00 :=
    BitVec.toNat_sub_of_le (BitVec.le_def.mpr (h.trans' (by decide)))
  rw [tierBIndex, BitVec.toNat_setWidth, BitVec.toNat_ushiftRight, hsub, Nat.shiftRight_eq_div_pow]
  omega

theorem toInt_add_one {e : BitVec 16} (h : e.toInt ≤ 16383) : (e + 1).toInt = e.toInt + 1 := by
  have hge := BitVec.le_toInt e
  have hone : (1 : BitVec 16).toInt = 1 := rfl
  rw [BitVec.toInt_add, hone, Int.bmod_eq_of_le (by omega) (by omega)]

section
variable {s : State} {sig : BitVec 113} {e0 : BitVec 16} (hs : s.sig = .holding sig)
  (he : s.e0 = .holding e0)
include hs he

theorem exec_index_tierA (h : sig.extractLsb' 96 17 < tierThreshold) :
    exec .index s = .next { s with
      m17 := .holding (sig.extractLsb' 96 17), tierb := .holding false
      j := .holding (tierAIndex (sig.extractLsb' 96 17))
      k := .holding (tierAIndex (sig.extractLsb' 96 17) + 38), e := .holding e0, step := 9 } := by
  change execIndex s = _
  rw [execIndex, readReg_of_holding hs, readReg_of_holding he]
  exact if_pos h

theorem exec_index_tierB (h : ¬ sig.extractLsb' 96 17 < tierThreshold) :
    exec .index s = .next { s with
      m17 := .holding (sig.extractLsb' 96 17), tierb := .holding true
      j := .holding (tierBIndex (sig.extractLsb' 96 17))
      k := .holding (tierBIndex (sig.extractLsb' 96 17) - 26), e := .holding (e0 + 1), step := 9 } := by
  change execIndex s = _
  rw [execIndex, readReg_of_holding hs, readReg_of_holding he]
  exact if_neg h

end

/-- Settles O27: the threshold on `M17` chooses the tier, and in each tier nothing wraps. -/
theorem indexChoosesTierAndGridPoint : Obligations.IndexChoosesTierAndGridPoint := by
  intro s sig e0 hs he hnorm hmax
  have hm := toNat_m17 sig
  have hmin : 0x10000 ≤ (sig.extractLsb' 96 17).toNat := by omega
  have hlt := (sig.extractLsb' 96 17).isLt
  by_cases htier : (sig.extractLsb' 96 17).toNat < 0x16800
  · have hj := toNat_tierAIndex hmin htier
    have hexec := exec_index_tierA hs he ((lt_tierThreshold_iff _).mpr htier)
    rw [← decide_eq_false htier.not_ge] at hexec
    refine ⟨_, _, _, _, hexec, hm, fun _ => ⟨hj, by omega, ?_, rfl⟩, fun h => absurd htier h.not_gt⟩
    exact BitVec.toNat_add_of_lt (by change _ + 38 < _; omega)
  · have hge := not_lt.mp htier
    have hj := toNat_tierBIndex hge
    have hexec := exec_index_tierB hs he (mt (lt_tierThreshold_iff _).mp htier)
    rw [← decide_eq_true hge] at hexec
    refine ⟨_, _, _, _, hexec, hm, fun h => absurd h htier,
      fun _ => ⟨hj, by omega, by omega, ?_, toInt_add_one hmax⟩⟩
    exact BitVec.toNat_sub_of_le (BitVec.le_def.mpr (by change 26 ≤ _; omega))

/-! `TBUILD` -/

theorem toNat_gridWord (b : Bool) (j : BitVec 7) : (gridWord b j).toNat =
    if b then 0x3FFE0000 + 2 ^ 10 * j.toNat else 0x3FFF0000 + 2 ^ 9 * j.toNat := by
  have hj := j.isLt
  cases b <;> simp [gridWord, Nat.shiftLeft_eq] <;> omega

theorem toNat_realign (b : Bool) (sig : BitVec 113) :
    (realign b sig).toNat = (if b then 0x3FFE else 0x3FFF) * 2 ^ 112 + sig.toNat % 2 ^ 112 := by
  rw [realign, XF.toNat_pack, BitVec.extractLsb'_toNat]
  cases b <;> simp

theorem exec_tbuild {s : State} {b : Bool} {j : BitVec 7} {sig : BitVec 113} (hb : s.tierb = .holding b)
    (hj : s.j = .holding j) (hs : s.sig = .holding sig) :
    exec .tbuild s = .next { s with
      t := .holding (gridWord b j ++ 0#96), u := .holding (realign b sig), step := 10 } := by
  change execTbuild s = _
  rw [execTbuild, readReg_of_holding hb, readReg_of_holding hj, readReg_of_holding hs]
  rfl

/-- Settles O28: the two words as numbers; the 32-bit sum does not wrap for any `J`. -/
theorem tbuildAssemblesBitPatterns : Obligations.TbuildAssemblesBitPatterns := by
  intro s b j sig hb hj hs
  refine ⟨_, _, exec_tbuild hb hj hs, ?_, toNat_realign b sig⟩
  rw [Laws.MatchesRow.append_toNat, toNat_gridWord, BitVec.toNat_zero, add_zero]

/-! `ZNEAR` and `ZSUB` -/

theorem State.fpZ_no_flag (s : State) (v : XF) : s.fpZ ⟨v, 0⟩ = s.writeZ v :=
  congrArg (fun t : State => t.writeZ v) s.raise_zero

theorem exec_znear {s : State} {x : XF} (hx : s.x = .holding x) :
    exec .znear s = .next (((((s.fpZ (FP.fsub s.params.defaultNan x constOne)).writeK 38).writeT
      constOne).writeE 0).goto 15) := by
  change execZnear s = _
  rw [execZnear, readReg_of_holding hx, readRom_const3]

theorem exec_znear_of_no_flag {s : State} {x v : XF} (hx : s.x = .holding x)
    (h : FP.fsub s.params.defaultNan x constOne = ⟨v, 0⟩) :
    exec .znear s = .next { s with
      z := .holding v, k := .holding 38, t := .holding constOne, e := .holding 0, step := 15 } := by
  rw [exec_znear hx, h, State.fpZ_no_flag]
  rfl

theorem exec_zsub {s : State} {u t : XF} (hu : s.u = .holding u) (ht : s.t = .holding t) :
    exec .zsub s = .next ((s.fpTmp (FP.fsub s.params.defaultNan u t)).goto 14) := by
  change execZsub s = _
  rw [execZsub, readReg_of_holding hu, readReg_of_holding ht]

theorem exec_zsub_of_no_flag {s : State} {u t v : XF} (hu : s.u = .holding u) (ht : s.t = .holding t)
    (h : FP.fsub s.params.defaultNan u t = ⟨v, 0⟩) :
    exec .zsub s = .next { s with tmp := .holding v, step := 14 } := by
  rw [exec_zsub hu ht, h, State.fpTmp_no_flag]
  rfl

theorem two_zpow_neg_one_le_abs {q : ℚ} (h : 1 / 2 ≤ q) : 2 ^ (-1 : ℤ) ≤ |q| := by
  rw [zpow_neg_one, ← one_div]
  exact h.trans (le_abs_self q)

/-- Settles O31: the operand and 1.0 are both from 1/2 upwards and less than 1 apart. -/
theorem znearIsExact : Obligations.ZnearIsExact := by
  intro s x hx hfin hlo hhi
  obtain ⟨-, -, -, hone, -, -⟩ := const_values
  have hx_half := two_zpow_neg_one_le_abs (show 1 / 2 ≤ FP.val x by linarith)
  have hone_half := two_zpow_neg_one_le_abs (show 1 / 2 ≤ FP.val constOne by rw [hone]; norm_num)
  have hband : |FP.val x - FP.val constOne| ≤ 2 ^ (-7 : ℤ) := by
    rw [hone, show (2 : ℚ) ^ (-7 : ℤ) = 1 / 128 by norm_num, abs_le]
    constructor <;> linarith
  have hexact := FP.fsub_exact_of_near hx_half hone_half s.params.defaultNan hfin rfl
    (hband.trans_lt (by norm_num)) (by norm_num) (by norm_num)
  refine ⟨_, exec_znear_of_no_flag hx hexact.eq_value, hexact.finite, ?_, fun hne => ?_, ?_⟩
  · rw [hexact.value, hone]
  · rw [← hone] at hne
    rw [hexact.value]
    exact FP.two_zpow_le_abs_val_sub hx_half hone_half hne
  · rw [hexact.value]
    exact hband

/-- Settles O32: the significand and the grid point are both from 1/2 upwards and less than 1 apart. -/
theorem zsubIsExact : Obligations.ZsubIsExact := by
  intro s u t k hu ht _ hfu hft hgrid hlo _ hge hlt
  have hk : (0 : ℚ) ≤ k := Nat.cast_nonneg k
  have hu_half := two_zpow_neg_one_le_abs (show 1 / 2 ≤ FP.val u by linarith)
  have ht_half := two_zpow_neg_one_le_abs (show 1 / 2 ≤ FP.val t by linarith)
  have hnear : |FP.val u - FP.val t| < 2 ^ (-1 + 1 : ℤ) := by
    rw [neg_add_cancel, zpow_zero, abs_lt]
    constructor <;> linarith
  have hexact := FP.fsub_exact_of_near hu_half ht_half s.params.defaultNan hfu hft hnear
    (by norm_num) (by norm_num)
  refine ⟨_, exec_zsub_of_no_flag hu ht hexact.eq_value, hexact.finite, hexact.value, fun heq => ?_⟩
  rw [FP.fsub_of_val_eq _ hfu hft heq (by linarith)]

end Sys2Proof.Machine
end

section
/-! PROOFS. One rounding of an exact result in the normal range (R104): its sign and its flags, no encoding
nearer, and a magnitude that stays between the powers of two it was between; products and sums of finite
operands as such roundings (R108, R110). -/

namespace Sys2Proof.FP

/-! Bounds on the rounded magnitude -/

theorem exists_abs_val_eq_two_zpow {k : ℤ} (hmin : -16382 ≤ k) (hmax : k ≤ 16383) :
    ∃ w : XF, |val w| = 2 ^ k := by
  have hpow := two_zpow_add (k - 112) 112
  rw [show k - 112 + (112 : ℕ) = k by push_cast; ring] at hpow
  refine ⟨XF.pack 0 (BitVec.ofInt 15 (k + 16383)) (BitVec.ofNat 112 (2 ^ 112)), ?_⟩
  rw [val_pack_normal 0 le_rfl (by norm_num) hmin hmax, abs_signed, ← hpow]
  exact abs_of_pos (by positivity)

section
variable {r : ℚ} (hr : 0 < r) {k : ℤ} (hmin : -16382 ≤ k) (hmax : k ≤ 16383)
include hr hmin hmax

theorem rounded_le_two_zpow (h : r ≤ 2 ^ k) : rounded r ≤ 2 ^ k := by
  obtain ⟨w, hw⟩ := exists_abs_val_eq_two_zpow hmin hmax
  have hle := (noNearer_abs_val hr w).le
  rw [hw, abs_of_nonneg (sub_nonneg.mpr h)] at hle
  linarith [le_abs_self (rounded r - r)]

theorem two_zpow_le_rounded (h : 2 ^ k ≤ r) : 2 ^ k ≤ rounded r := by
  obtain ⟨w, hw⟩ := exists_abs_val_eq_two_zpow hmin hmax
  have hle := (noNearer_abs_val hr w).le
  rw [hw, abs_of_nonpos (sub_nonpos.mpr h)] at hle
  linarith [neg_abs_le (rounded r - r)]

end

@[simp] theorem rounded_zero : rounded 0 = 0 := by
  have h : nearestEven 0 = 0 := by exact_mod_cast nearestEven_natCast 0
  simp [rounded, quanta, h]

/-! One rounding -/

theorem two_zpow_lt_overflow_bound : (2 : ℚ) ^ (16383 : ℤ) < 2 ^ (16384 : ℤ) - 2 ^ (16270 : ℤ) := by
  have hdouble : (2 : ℚ) ^ (16384 : ℤ) = 2 ^ (16383 : ℤ) * 2 := zpow_add_one₀ two_ne_zero 16383
  have hulp : (2 : ℚ) ^ (16270 : ℤ) < 2 ^ (16383 : ℤ) := zpow_lt_zpow_right₀ one_lt_two (by norm_num)
  rw [hdouble, mul_two, lt_sub_iff_add_lt]
  exact (add_lt_add_iff_left _).mpr hulp

/-- One rounding of `q` with sign `s` and neither overflow nor underflow (R104). -/
structure OneRounding (result : Result) (s : BitVec 1) (q : ℚ) : Prop where
  sign : result.value.sign = s
  flags : result.flags = nxUnless result.value q
  nearest : Nearest result.value (q : ℝ)
  magnitude : |val result.value| = rounded |q|

section
variable {result : Result} {s : BitVec 1} {q : ℚ} (h : OneRounding result s q) {k : ℤ}
  (hmin : -16382 ≤ k) (hmax : k ≤ 16383)
include h hmin hmax

theorem OneRounding.le_two_zpow (hq : |q| ≤ 2 ^ k) : |val result.value| ≤ 2 ^ k := by
  rw [h.magnitude]
  obtain hzero | hpos := (abs_nonneg q).eq_or_lt
  · rw [← hzero, rounded_zero]
    positivity
  · exact rounded_le_two_zpow hpos hmin hmax hq

theorem OneRounding.two_zpow_le (hq : 2 ^ k ≤ |q|) : 2 ^ k ≤ |val result.value| := by
  rw [h.magnitude]
  exact two_zpow_le_rounded (hq.trans_lt' (by positivity)) hmin hmax hq

end

/-- A zero result of any sign is exact. -/
theorem oneRounding_zero (s : BitVec 1) : OneRounding ⟨XF.zero s, 0⟩ s 0 where
  sign := XF.sign_pack ..
  flags := (if_pos (val_zero s)).symm
  nearest := ⟨by simp [XF.zero, XF.isFinite], fun w _ => by simp⟩
  magnitude := by simp

theorem inRangeFlags_of_not_tiny {r : ℚ} (hmin : 2 ^ (-16382 : ℤ) ≤ r) :
    inRangeFlags r = if rounded r = r then 0 else Flag.nx := by
  have hpos : (0 : ℚ) < 2 ^ (-16496 : ℤ) := by positivity
  have htiny : ¬ r < 2 ^ (-16382 : ℤ) - 2 ^ (-16496 : ℤ) := by linarith
  rw [inRangeFlags, if_neg htiny]
  rfl

/-- `round` from the least normal magnitude to the greatest power of two of the format (R104). -/
theorem oneRounding_round {s : BitVec 1} {q : ℚ} (hsign : signed s |q| = q)
    (hmin : 2 ^ (-16382 : ℤ) ≤ |q|) (hmax : |q| ≤ 2 ^ (16383 : ℤ)) :
    OneRounding (round s |q|) s q := by
  have hpos : 0 < |q| := hmin.trans_lt' (by positivity)
  have h := round_inRange hpos s (hmax.trans_lt two_zpow_lt_overflow_bound)
  have hexact := h.val_eq_iff
  have hnear := h.nearest hpos
  rw [hsign] at hexact hnear
  refine ⟨h.sign, ?_, hnear, ?_⟩
  · rw [h.flags, inRangeFlags_of_not_tiny hmin, nxUnless]
    simp only [hexact]
  · rw [h.value, abs_signed, abs_of_nonneg (rounded_nonneg _)]

/-! Products and sums -/

theorem signed_xor_abs_mul (a b : XF) : signed (a.sign ^^^ b.sign) |val a * val b| = val a * val b := by
  rw [abs_mul, ← signed_mul_signed, signed_sign_abs_val, signed_sign_abs_val]

/-- A product of finite operands that is zero or in the normal range is rounded once (R110). -/
theorem fmul_oneRounding (dn : XF) {a b : XF} (ha : a.isFinite = true) (hb : b.isFinite = true)
    (hmin : val a * val b = 0 ∨ 2 ^ (-16382 : ℤ) ≤ |val a * val b|)
    (hmax : |val a * val b| ≤ 2 ^ (16383 : ℤ)) :
    OneRounding (fmul dn a b) (a.sign ^^^ b.sign) (val a * val b) := by
  rw [fmul_of_isFinite dn ha hb]
  obtain hzero | hmin := hmin
  · rw [hzero, abs_zero, if_pos rfl]
    exact oneRounding_zero _
  · have hpos : 0 < |val a * val b| := hmin.trans_lt' (by positivity)
    rw [if_neg hpos.ne']
    exact oneRounding_round (signed_xor_abs_mul a b) hmin hmax

/-- A sum has the sign of its greater operand (R108). -/
theorem sign_add_of_abs_lt {a b : XF} (h : |val a| < |val b|) :
    (if val a + val b < 0 then 1 else 0) = b.sign := by
  obtain ⟨hlo, hhi⟩ := abs_lt.mp h
  obtain hs | hs := BitVec.eq_zero_or_eq_one b.sign
  · have hb := val_of_sign_zero hs
    rw [hs, if_neg (by linarith)]
    rfl
  · have hb := val_of_sign_one hs
    rw [hs, if_pos (by linarith)]
    rfl

/-- A non-zero sum of finite operands is a rounding with the sign of the greater operand (R108). -/
theorem fadd_eq_round (dn : XF) {a b : XF} (ha : a.isFinite = true) (hb : b.isFinite = true)
    (h : |val a| < |val b|) : fadd dn a b = round b.sign |val a + val b| := by
  have hne : val a + val b ≠ 0 := fun h0 => h.ne (by rw [eq_neg_of_add_eq_zero_left h0, abs_neg])
  rw [fadd_of_isFinite dn ha hb, if_neg hne, sign_add_of_abs_lt h]

theorem fadd_oneRounding (dn : XF) {a b : XF} (ha : a.isFinite = true) (hb : b.isFinite = true)
    (h : |val a| < |val b|) (hmin : 2 ^ (-16382 : ℤ) ≤ |val a + val b|)
    (hmax : |val a + val b| ≤ 2 ^ (16383 : ℤ)) :
    OneRounding (fadd dn a b) b.sign (val a + val b) := by
  rw [fadd_eq_round dn ha hb h]
  exact oneRounding_round (by rw [← sign_add_of_abs_lt h, signed_neg_sign_abs]) hmin hmax

/-! A zero addend -/

theorem ulpExp_le_of_isFinite {v : XF} (h : v.isFinite = true) : v.ulpExp ≤ 16271 := by
  have hlt := v.bexp.isLt
  rw [XF.isFinite, bne_iff_ne, ne_eq, XF.bexp_eq_ones_iff] at h
  unfold XF.ulpExp
  omega

theorem sign_round (s : BitVec 1) {r : ℚ} (hr : 0 < r) : (round s r).value.sign = s := by
  obtain ⟨g, qe, -, hround⟩ := exists_round_eq hr s
  rw [hround]
  split_ifs
  · exact XF.sign_pack ..
  · exact XF.sign_pack ..
  · exact XF.sign_pack ..

/-- A finite encoding's own value is rounded to it (R104). -/
theorem round_abs_val {v : XF} (hfin : v.isFinite = true) (hne : val v ≠ 0) :
    round v.sign |val v| = ⟨v, 0⟩ := by
  have hpos := abs_pos.mpr hne
  have hsig : 0 < v.significand := Nat.pos_of_ne_zero fun h0 => hpos.ne' (by simp [abs_val, h0])
  have hexact := round_exact v.sign hsig v.significand_lt v.ulpExp_ge (ulpExp_le_of_isFinite hfin)
  rw [← val_eq_signed, ← abs_val] at hexact
  rw [hexact.eq_value, eq_of_sign_eq_of_abs_val_eq (sign_round v.sign hpos) (by rw [hexact.value])]

theorem fadd_of_val_left_eq_zero (dn : XF) {a b : XF} (ha : a.isFinite = true) (hb : b.isFinite = true)
    (hzero : val a = 0) (hne : val b ≠ 0) : fadd dn a b = ⟨b, 0⟩ := by
  have hlt : |val a| < |val b| := by rwa [hzero, abs_zero, abs_pos]
  rw [fadd_eq_round dn ha hb hlt, hzero, zero_add, round_abs_val hb hne]

end Sys2Proof.FP
end

section
/-! PROOFS. The poly_evaluator_degree15: the start of Horner's scheme (R212), its multiplies (R213) and its
adds (R214); and `SPC.ONE`, a copy like `PINIT` (R192). -/

namespace Sys2Proof.Machine

/-! `COEF`, `PINIT` and `SPC.ONE` -/

theorem romRead_coef (p : Params) {n : ℕ} (hmin : 3 ≤ n) (hmax : n ≤ 15) :
    romRead p .coef (n - 3) = some (p.l n) := by
  obtain ⟨i, rfl⟩ := Nat.exists_eq_add_of_le' hmin
  have hi : i < 13 := by omega
  simp [Params.l, romRead, hi]

theorem Params.Allowed.coefAllowed_l {p : Params} (h : p.Allowed) {n : ℕ} (hmin : 3 ≤ n) (hmax : n ≤ 15) :
    coefAllowed n (p.l n) := by
  obtain ⟨i, rfl⟩ := Nat.exists_eq_add_of_le' hmin
  have hi : i < 13 := by omega
  have hword : p.l (i + 3) = p.coef[i] := by simp [Params.l, romRead, hi]
  rw [hword]
  exact h.1 ⟨i, hi⟩

theorem exec_pinit (s : State) : exec .pinit s = .next ((s.writeP (s.params.l 15)).goto 17) := by
  change execPinit s = _
  rw [execPinit, readRom_of_word (romRead_coef s.params (n := 15) (by norm_num) le_rfl)]

theorem exec_spcOne (s : State) : exec .spcOne s = .next ((s.writeY 0).goto 55) := rfl

/-- Settles O39: each of the two is one register write and the step to its successor. -/
theorem plainCopies : Obligations.PlainCopies := fun s => ⟨exec_pinit s, exec_spcOne s⟩

/-! `PMUL.n` -/

theorem exec_of_mem_pmulRows {n : ℕ} {i : Instr} (h : (n, i) ∈ pmulRows) (s : State) :
    exec i s = pmul s := by
  fin_cases h <;> rfl

theorem pmul_of_holding {s : State} {p z : XF} (hp : s.p = .holding p) (hz : s.z = .holding z) :
    pmul s = .next ((s.fpP (FP.fmul s.params.defaultNan p z)).goto (s.step + 1)) := by
  rw [pmul, readReg_of_holding hp, readReg_of_holding hz]

/-- The bounds of the Horner loop keep every product up to `2^-7`, and from `2^-119` unless `Z` is zero
(R213). -/
theorem horner_product_bounds {p z : ℚ} (hp : 1 / 32 ≤ |p|) (hp' : |p| ≤ 51 / 100)
    (hz : |z| ≤ 2 ^ (-7 : ℤ)) :
    (2 ^ (-114 : ℤ) ≤ |z| → 2 ^ (-119 : ℤ) ≤ |p * z|) ∧ |p * z| ≤ 2 ^ (-7 : ℤ) := by
  rw [abs_mul]
  refine ⟨fun hz' => ?_, ?_⟩
  · calc (2 : ℚ) ^ (-119 : ℤ) = 1 / 32 * 2 ^ (-114 : ℤ) := by norm_num
      _ ≤ |p| * |z| := by gcongr
  · calc |p| * |z| ≤ 1 * 2 ^ (-7 : ℤ) := by gcongr; linarith
      _ = 2 ^ (-7 : ℤ) := one_mul _

/-- Settles O40: within the bounds the product is zero or one rounding in the normal range, and rounding keeps
the powers of two that bound it. -/
theorem hornerMultiply : Obligations.HornerMultiply := by
  intro n i hrow s p z hp hz
  refine ⟨?_, fun hfp hfz hplo hphi hz0 hzhi => ?_⟩
  · rw [exec_of_mem_pmulRows hrow, pmul_of_holding hp hz]
    rfl
  obtain ⟨hlo, hhi⟩ := horner_product_bounds hplo hphi hzhi
  have hmin : FP.val p * FP.val z = 0 ∨ 2 ^ (-16382 : ℤ) ≤ |FP.val p * FP.val z| :=
    hz0.imp (fun h => by rw [h, mul_zero]) fun h =>
      (zpow_le_zpow_right₀ one_le_two (by norm_num)).trans (hlo h)
  have hround := FP.fmul_oneRounding s.params.defaultNan hfp hfz hmin
    (hhi.trans (zpow_le_zpow_right₀ one_le_two (by norm_num)))
  refine ⟨hround.flags, hround.nearest, hround.sign, fun hne => ?_,
    hround.le_two_zpow (by norm_num) (by norm_num) hhi⟩
  exact hround.two_zpow_le (by norm_num) (by norm_num) (hlo (hz0.resolve_left hne))

/-! `PADD.n` -/

theorem range_of_mem_paddRows {n : ℕ} {i : Instr} (h : (n, i) ∈ paddRows) : 3 ≤ n ∧ n ≤ 15 := by
  fin_cases h <;> decide

theorem exec_of_mem_paddRows {n : ℕ} {i : Instr} (h : (n, i) ∈ paddRows) (s : State) :
    exec i s = padd n s := by
  fin_cases h <;> rfl

theorem padd_of_holding {s : State} {p : XF} (hp : s.p = .holding p) {n : ℕ} (hmin : 3 ≤ n)
    (hmax : n ≤ 15) :
    padd n s = .next ((s.fpP (FP.fadd s.params.defaultNan p (s.params.l n))).goto (s.step + 1)) := by
  rw [padd, readReg_of_holding hp, readRom_of_word (romRead_coef s.params hmin hmax)]

/-- The bounds of the Horner loop keep every sum between `2^-5` and 1: the coefficient dominates (R214). -/
theorem horner_sum_bounds {p c : ℚ} (hp : |p| ≤ 51 / 12800) (hc : 1 / 16 ≤ |c|) (hc' : |c| ≤ 1 / 2) :
    |p| < |c| ∧ 2 ^ (-5 : ℤ) ≤ |p + c| ∧ |p + c| ≤ 2 ^ (0 : ℤ) := by
  have hsum := abs_add_le p c
  have hdiff := abs_sub_abs_le_abs_sub c (-p)
  rw [abs_neg, sub_neg_eq_add, add_comm c] at hdiff
  rw [show (2 : ℚ) ^ (-5 : ℤ) = 1 / 32 by norm_num, zpow_zero]
  exact ⟨by linarith, by linarith, by linarith⟩

/-- Settles O41: the coefficient dominates the sum, so the sum is one rounding in the normal range with the
coefficient's sign. -/
theorem hornerAdd : Obligations.HornerAdd := by
  intro n i hrow s p hp
  obtain ⟨hnlo, hnhi⟩ := range_of_mem_paddRows hrow
  refine ⟨?_, fun hallowed hfp hple => ?_⟩
  · rw [exec_of_mem_paddRows hrow, padd_of_holding hp hnlo hnhi]
    rfl
  obtain ⟨hnormal, hclo, hchi, -, -⟩ := hallowed.coefAllowed_l hnlo hnhi
  have hfc := XF.isFinite_of_isNormal hnormal
  obtain ⟨hdom, hlo, hhi⟩ := horner_sum_bounds hple hclo hchi
  have hround := FP.fadd_oneRounding s.params.defaultNan hfp hfc hdom
    (hlo.trans' (zpow_le_zpow_right₀ one_le_two (by norm_num)))
    (hhi.trans (zpow_le_zpow_right₀ one_le_two (by norm_num)))
  refine ⟨hround.flags, hround.nearest, hround.sign, abs_pos.mp ?_,
    fun hzero => FP.fadd_of_val_left_eq_zero _ hfp hfc hzero (abs_pos.mp (by linarith))⟩
  exact (hround.two_zpow_le (by norm_num) (by norm_num) hlo).trans_lt' (by positivity)

end Sys2Proof.Machine
end

section
/-! PROOFS. The precision_accumulator: the exact half of `HW` (R230), the conversion of `ECVT` (R232), the two
exponent terms of `EB` and `EA` (R233, R240) and the exact difference of `TM1` (R238). -/

namespace Sys2Proof

theorem XF.toNat_bexp_sub_one {v : XF} (h : 1 ≤ v.bexp.toNat) : (v.bexp - 1).toNat = v.bexp.toNat - 1 :=
  BitVec.toNat_sub_of_le (BitVec.le_def.mpr h)

/-- A lower biased exponent keeps an encoding finite (R101). -/
theorem XF.isFinite_pack_bexp_sub_one {v : XF} (s : BitVec 1) (h : 1 ≤ v.bexp.toNat) :
    (XF.pack s (v.bexp - 1) v.frac).isFinite = true := by
  have hlt := v.bexp.isLt
  rw [XF.isFinite, bne_iff_ne, ne_eq, XF.bexp_eq_ones_iff, XF.bexp_pack, XF.toNat_bexp_sub_one h]
  omega

namespace FP

theorem val_zeroWord : val 0 = 0 := val_zero 0

/-- One less in the biased exponent of a normal encoding, down to the least normal exponent, is half the
value (R102). -/
theorem val_pack_bexp_sub_one {v : XF} (h : 2 ≤ v.bexp.toNat) :
    val (XF.pack v.sign (v.bexp - 1) v.frac) = val v / 2 := by
  have hexp := XF.toNat_bexp_sub_one (h.trans' one_le_two)
  have hne : v.bexp ≠ 0 := fun h0 => absurd h (by rw [h0]; decide)
  have hne' : v.bexp - 1 ≠ 0 := fun h0 => by
    rw [h0] at hexp
    change 0 = _ at hexp
    omega
  have hlast : ((v.bexp.toNat - 1 : ℕ) : ℤ) - 16383 = v.bexp.toNat - 16383 - 1 := by omega
  rw [← v.pack_fields, val_pack, val_pack]
  simp only [XF.sign_pack, XF.bexp_pack, XF.frac_pack]
  rw [if_neg hne, if_neg hne', hexp, hlast, zpow_sub_one₀ two_ne_zero]
  obtain hs | hs := BitVec.eq_zero_or_eq_one v.sign
  · rw [hs, signed_zero_bit, signed_zero_bit]
    ring
  · rw [hs, signed_one_bit, signed_one_bit]
    ring

/-- A zero product of finite operands is the zero of the combined sign (R110). -/
theorem fmul_of_val_mul_eq_zero (dn : XF) {a b : XF} (ha : a.isFinite = true) (hb : b.isFinite = true)
    (h : val a * val b = 0) : fmul dn a b = ⟨XF.zero (a.sign ^^^ b.sign), 0⟩ := by
  rw [fmul_of_isFinite dn ha hb, if_pos (abs_eq_zero.mpr h)]

/-- A product of finite operands whose value and sign a finite encoding has is that encoding (R104, R110). -/
theorem fmul_eq_of_val_eq (dn : XF) {a b v : XF} (ha : a.isFinite = true) (hb : b.isFinite = true)
    (hv : v.isFinite = true) (hsign : a.sign ^^^ b.sign = v.sign) (hval : val a * val b = val v)
    (hne : val v ≠ 0) : fmul dn a b = ⟨v, 0⟩ := by
  rw [fmul_of_isFinite dn ha hb, hval, if_neg (abs_ne_zero.mpr hne), hsign, round_abs_val hv hne]

end FP

namespace Machine

/-! `HW` -/

theorem exec_hw {s : State} {w : XF} (hw : s.w = .holding w) :
    exec .hw s = .next ((s.fpTmp (FP.fmul s.params.defaultNan constHalf w)).goto 44) := by
  change execHw s = _
  rw [execHw, readRom_const2, readReg_of_holding hw]

/-- From `2^-230` upwards the biased exponent is far above the subnormal range (R115 (d)). -/
theorem two_le_bexp_of_two_zpow_le {w : XF} (h : 2 ^ (-230 : ℤ) ≤ FP.val w) : 2 ≤ w.bexp.toNat := by
  have hlast := FP.sub_le_ulpExp_of_two_zpow_le (h.trans (le_abs_self _))
  rw [XF.ulpExp] at hlast
  omega

theorem fmul_constHalf_zero (dn : XF) : FP.fmul dn constHalf 0 = ⟨0, 0⟩ :=
  FP.fmul_of_val_mul_eq_zero dn (by decide) (by decide) (by rw [FP.val_zeroWord, mul_zero])

/-- Half of a positive operand is its word with the biased exponent one less (R230). -/
theorem fmul_constHalf_of_pos (dn : XF) {w : XF} (hs : w.sign = 0) (hfin : w.isFinite = true)
    (hmin : 2 ^ (-230 : ℤ) ≤ FP.val w) :
    FP.fmul dn constHalf w = ⟨XF.pack 0 (w.bexp - 1) w.frac, 0⟩ ∧
      FP.val (XF.pack 0 (w.bexp - 1) w.frac) = FP.val w / 2 := by
  obtain ⟨-, -, hhalf, -, -, -⟩ := const_values
  have hbexp := two_le_bexp_of_two_zpow_le hmin
  have hpos : 0 < FP.val w := hmin.trans_lt' (by positivity)
  have hval := FP.val_pack_bexp_sub_one hbexp
  rw [hs] at hval
  refine ⟨FP.fmul_eq_of_val_eq dn (by decide) hfin ?_ ?_ ?_ ?_, hval⟩
  · exact XF.isFinite_pack_bexp_sub_one 0 (hbexp.trans' one_le_two)
  · rw [hs, XF.sign_pack]
    rfl
  · rw [hhalf, hval]
    ring
  · rw [hval]
    exact (half_pos hpos).ne'

/-- Settles O44: halving a word far above the subnormal range only lowers its exponent. -/
theorem hwHalvesExactly : Obligations.HwHalvesExactly := by
  intro s w hw hcase
  rw [exec_hw hw]
  obtain rfl | ⟨hs, hfin, hmin⟩ := hcase
  · rw [if_pos rfl, fmul_constHalf_zero, State.fpTmp_no_flag, FP.val_zeroWord, zero_div]
    exact ⟨rfl, rfl⟩
  · obtain ⟨hmul, hval⟩ := fmul_constHalf_of_pos s.params.defaultNan hs hfin hmin
    have hne : w ≠ 0 := fun h =>
      absurd (two_le_bexp_of_two_zpow_le hmin) (by rw [h]; decide)
    rw [if_neg hne, hmul, State.fpTmp_no_flag]
    exact ⟨rfl, hval⟩

/-! `ECVT` -/

theorem exec_ecvt {s : State} {e : BitVec 16} (he : s.e = .holding e) :
    exec .ecvt s = .next ((s.writeEf (FP.i2f e)).goto 46) := by
  change execEcvt s = _
  rw [execEcvt, readReg_of_holding he]

/-- Settles O46: the conversion of a 16-bit integer is exact. -/
theorem ecvtIsExact : Obligations.EcvtIsExact := by
  intro s e he
  obtain ⟨hfin, hval⟩ := FP.i2f_exact e
  exact ⟨_, exec_ecvt he, hfin, hval, fun h0 => by rw [h0]; rfl⟩

/-! `EB` and `EA` -/

section
variable {s : State} {ef : XF} (hef : s.ef = .holding ef)
include hef

theorem exec_eb :
    exec .eb s = .next ((s.fpTmp (FP.fmul s.params.defaultNan ef constLn2b)).goto 47) := by
  change execEb s = _
  rw [execEb, readReg_of_holding hef, readRom_const7]

theorem exec_ea :
    exec .ea s = .next ((s.fpTmp (FP.fmul s.params.defaultNan ef constLn2a)).goto 54) := by
  change execEa s = _
  rw [execEa, readReg_of_holding hef, readRom_const6]

end

/-- A converted 0 times a positive finite constant is +0 (R233, R240). -/
theorem fmul_i2f_zero (dn : XF) {c : XF} (hfin : c.isFinite = true) (hs : c.sign = 0) :
    FP.fmul dn (FP.i2f 0) c = ⟨0, 0⟩ := by
  obtain ⟨hfin0, hval0⟩ := FP.i2f_exact 0
  have hmul : FP.val (FP.i2f 0) * FP.val c = 0 := by
    rw [hval0, show (0 : BitVec 16).toInt = 0 from rfl, Int.cast_zero, zero_mul]
  rw [FP.fmul_of_val_mul_eq_zero dn hfin0 hfin hmul, hs]
  rfl

theorem val_constLn2b_bounds : 2 ^ (-20 : ℤ) ≤ FP.val constLn2b ∧ FP.val constLn2b ≤ 1 := by
  decide +kernel

/-- A non-zero multiple of `LN2B` is at least `LN2B`, and every 16-bit multiple at most `2^15`: both far inside
the normal range (R233). -/
theorem int_mul_constLn2b_bounds (e : BitVec 16) :
    (e.toInt * FP.val constLn2b = 0 ∨ 2 ^ (-16382 : ℤ) ≤ |e.toInt * FP.val constLn2b|) ∧
      |e.toInt * FP.val constLn2b| ≤ 2 ^ (16383 : ℤ) := by
  obtain ⟨hlo, hhi⟩ := val_constLn2b_bounds
  have hpos : 0 < FP.val constLn2b := hlo.trans_lt' (by positivity)
  rw [abs_mul, abs_of_pos hpos]
  constructor
  · obtain hzero | hne := eq_or_ne e.toInt 0
    · left
      rw [hzero, Int.cast_zero, zero_mul]
    · right
      have hone : (1 : ℚ) ≤ |(e.toInt : ℚ)| := by exact_mod_cast Int.one_le_abs hne
      calc (2 : ℚ) ^ (-16382 : ℤ) ≤ 2 ^ (-20 : ℤ) := zpow_le_zpow_right₀ one_le_two (by norm_num)
        _ ≤ FP.val constLn2b := hlo
        _ ≤ |(e.toInt : ℚ)| * FP.val constLn2b := le_mul_of_one_le_left hpos.le hone
  · have hle := BitVec.le_toInt e
    have hlt := BitVec.toInt_lt (x := e)
    have hint : |(e.toInt : ℚ)| ≤ 2 ^ (15 : ℤ) := by
      exact_mod_cast abs_le.mpr (show -(2 ^ 15 : ℤ) ≤ e.toInt ∧ e.toInt ≤ 2 ^ 15 by omega)
    calc |(e.toInt : ℚ)| * FP.val constLn2b ≤ |(e.toInt : ℚ)| :=
          mul_le_of_le_one_right (abs_nonneg _) hhi
      _ ≤ 2 ^ (15 : ℤ) := hint
      _ ≤ 2 ^ (16383 : ℤ) := zpow_le_zpow_right₀ one_le_two (by norm_num)

/-- `E` times `LN2B` is rounded once (R233). -/
theorem fmul_i2f_constLn2b_oneRounding (dn : XF) (e : BitVec 16) :
    FP.OneRounding (FP.fmul dn (FP.i2f e) constLn2b) ((FP.i2f e).sign ^^^ constLn2b.sign)
      (e.toInt * FP.val constLn2b) := by
  obtain ⟨hfin, hval⟩ := FP.i2f_exact e
  obtain ⟨hmin, hmax⟩ := int_mul_constLn2b_bounds e
  rw [← hval] at hmin hmax ⊢
  exact FP.fmul_oneRounding dn hfin (by decide) hmin hmax

/-- Settles O47: the product with `LN2B` is one rounding, the product with `LN2A` has few enough bits to need
none. -/
theorem exponentTerms : Obligations.ExponentTerms := by
  intro s e hef hmin hmax
  have hround := fmul_i2f_constLn2b_oneRounding s.params.defaultNan e
  have hexact := fmul_i2f_constLn2a_exact s.params.defaultNan hmin (by omega)
  refine ⟨⟨_, ?_, hround.nearest, fun h0 => ?_⟩, ⟨_, ?_, hexact.finite, ?_, fun h0 => ?_⟩⟩
  · rw [exec_eb hef, ← hround.flags]
    rfl
  · rw [h0, fmul_i2f_zero _ (by decide) (by decide)]
  · rw [exec_ea hef, hexact.eq_value, State.fpTmp_no_flag]
    rfl
  · rw [hexact.value, val_constLn2a, mul_div_assoc]
  · rw [h0, fmul_i2f_zero _ (by decide) (by decide)]

/-! `TM1` -/

theorem exec_tm1 {s : State} {t : XF} (ht : s.t = .holding t) :
    exec .tm1 s = .next ((s.fpTmp (FP.fsub s.params.defaultNan t constOne)).goto 52) := by
  change execTm1 s = _
  rw [execTm1, readReg_of_holding ht, readRom_const3]

/-- Settles O48: a grid point less 1.0 is a whole number of 128ths (R115 (c)). -/
theorem tm1IsExact : Obligations.Tm1IsExact := by
  intro s t k ht hk hfin hgrid
  obtain ⟨-, -, -, hone, -, -⟩ := const_values
  have hdiff : FP.val t - FP.val constOne = ((k - 38 : ℤ) : ℚ) * 2 ^ (-7 : ℤ) := by
    rw [hgrid, hone]
    push_cast
    ring
  have hsmall : |(k - 38 : ℤ)| < 2 ^ 113 := abs_lt.mpr (by omega)
  have hexact := FP.fsub_exact s.params.defaultNan hfin (b := constOne) rfl hdiff hsmall (by norm_num)
    (by norm_num)
  refine ⟨_, ?_, hexact.finite, ?_, fun hanchor => ?_⟩
  · rw [exec_tm1 ht, hexact.eq_value, State.fpTmp_no_flag]
    rfl
  · rw [hexact.value, hgrid, hone]
    ring
  · have hval : FP.val t = 1 := by rw [hgrid, hanchor]; norm_num
    rw [FP.fsub_of_val_eq _ hfin rfl (hval.trans hone.symm) (by rw [hval]; exact one_ne_zero)]

end Machine

end Sys2Proof
end

section
/-! PROOFS. The decoder and the encoder (30_encoding.md R71 to R81): the tests of a request word as arithmetic
on its number, one equation per request row, and the table of the sequencer codes. -/

namespace Sys2Proof

/-! The tests of R81 on the number of the word -/

theorem XF.mag_eq_zero_iff (x : XF) : x.mag = 0 ↔ x.toNat % 2 ^ 127 = 0 := by
  rw [← BitVec.toNat_inj, XF.mag_toNat]
  rfl

theorem XF.sign_eq_one_iff (x : XF) : x.sign = 1 ↔ 2 ^ 127 ≤ x.toNat := by
  have hlt := x.isLt
  rw [← BitVec.toNat_inj, XF.sign_toNat]
  change _ = 1 ↔ _
  omega

theorem XF.bexp_eq_ones_iff_toNat (x : XF) : x.bexp = 0x7FFF ↔ x.toNat / 2 ^ 112 % 2 ^ 15 = 0x7FFF := by
  rw [XF.bexp_eq_ones_iff, XF.bexp_toNat]

theorem eq_word_iff (x c : XF) : x = c ↔ x.toNat = c.toNat := BitVec.toNat_inj.symm

/-- The top bits of a word, from bit `lo` on. -/
theorem extractLsb'_top_eq_iff {x c : XF} {lo len : ℕ} (h : lo + len = 128) :
    x.extractLsb' lo len = c.extractLsb' lo len ↔ x.toNat / 2 ^ lo = c.toNat / 2 ^ lo := by
  have htop (v : XF) : (v.extractLsb' lo len).toNat = v.toNat / 2 ^ lo := by
    rw [BitVec.extractLsb'_toNat, Nat.shiftRight_eq_div_pow]
    apply Nat.mod_eq_of_lt
    rw [Nat.div_lt_iff_lt_mul (by positivity), ← pow_add, add_comm, h]
    exact v.isLt
  rw [← BitVec.toNat_inj, htop, htop]

theorem decodeRequest_eq_tests (x : XF) : decodeRequest x =
    if x.toNat % 2 ^ 127 = 0 then .lnZero x.sign
    else if 2 ^ 127 ≤ x.toNat then .lnNeg x.mag
    else if x.toNat / 2 ^ 112 % 2 ^ 15 = 0x7FFF then .lnSpecial x.frac
    else if x.toNat = 0x3FFF * 2 ^ 112 then .lnOne
    else if x.toNat / 2 ^ 106 = 0x0FFFBF then .lnNear1Below (x.extractLsb' 0 106)
    else if x.toNat / 2 ^ 105 = 0x1FFF80 then .lnNear1Above (x.extractLsb' 0 105)
    else if x.toNat = 0x3FFF02 * 2 ^ 104 then .lnNear1Top
    else .lnGen x := by
  simp only [decodeRequest, XF.mag_eq_zero_iff, XF.sign_eq_one_iff, XF.bexp_eq_ones_iff_toNat,
    eq_word_iff, extractLsb'_top_eq_iff (lo := 106) (len := 22) rfl,
    extractLsb'_top_eq_iff (lo := 105) (len := 23) rfl]
  rfl

theorem isGenWord_iff (x : XF) : isGenWord x = true ↔ x.toNat < 2 ^ 127 ∧ x.toNat ≠ 0 ∧
    x.toNat / 2 ^ 112 % 2 ^ 15 ≠ 0x7FFF ∧
    ¬ (0x3FFEFC * 2 ^ 104 ≤ x.toNat ∧ x.toNat ≤ 0x3FFF02 * 2 ^ 104) := by
  have hsign : x.sign = 0 ↔ x.toNat < 2 ^ 127 := by
    rw [← not_le, ← XF.sign_eq_one_iff]
    obtain h | h := BitVec.eq_zero_or_eq_one x.sign <;> rw [h] <;> decide
  have hlo : bandLoWord.toNat = 0x3FFEFC * 2 ^ 104 := rfl
  have hhi : bandHiWord.toNat = 0x3FFF02 * 2 ^ 104 := rfl
  have hlt := x.isLt
  simp only [isGenWord, hlo, hhi, Bool.and_eq_true, beq_iff_eq, bne_iff_ne, ne_eq, hsign,
    XF.mag_eq_zero_iff, XF.bexp_eq_ones_iff_toNat, Bool.not_eq_true', Bool.and_eq_false_iff,
    decide_eq_false_iff_not]
  omega

/-! The low part of a word under its fixed top bits -/

theorem extractLsb'_zero_append {a b : ℕ} (hi : BitVec a) (lo : BitVec b) :
    (hi ++ lo).extractLsb' 0 b = lo := by
  apply BitVec.eq_of_toNat_eq
  rw [BitVec.extractLsb'_toNat, Nat.shiftRight_zero, Laws.MatchesRow.append_toNat,
    Nat.mul_add_mod', Nat.mod_eq_of_lt lo.isLt]

/-- A word is its top bits and its low part. -/
theorem append_extractLsb'_zero {a b n : ℕ} {hi : BitVec a} {x : BitVec n} (hn : n = a + b)
    (h : x.toNat / 2 ^ b = hi.toNat) : hi ++ x.extractLsb' 0 b = x.cast hn := by
  apply BitVec.eq_of_toNat_eq
  rw [Laws.MatchesRow.append_toNat, BitVec.extractLsb'_toNat, Nat.shiftRight_zero, BitVec.toNat_cast, ← h,
    Nat.div_add_mod']

/-! One equation per request row: the word its encoder gives is the word its decoder takes (R81) -/

theorem encode_lnZero_toNat (sign : BitVec 1) : (sign ++ 0#127).toNat = sign.toNat * 2 ^ 127 := by
  rw [Laws.MatchesRow.append_toNat, BitVec.toNat_zero, add_zero]

theorem decodeRequest_lnZero (sign : BitVec 1) : decodeRequest (sign ++ 0#127) = .lnZero sign := by
  have hsign : XF.sign (sign ++ 0#127) = sign := by
    obtain rfl | rfl := BitVec.eq_zero_or_eq_one sign <;> decide
  rw [decodeRequest_eq_tests, if_pos (by rw [encode_lnZero_toNat, Nat.mul_mod_left]), hsign]

theorem decodeRequest_lnNeg {mag : BitVec 127} (h : mag ≠ 0) :
    decodeRequest (1#1 ++ mag) = .lnNeg mag := by
  have hmag : XF.mag (1#1 ++ mag) = mag := extractLsb'_zero_append ..
  have hn : (1#1 ++ mag : XF).toNat = 2 ^ 127 + mag.toNat := Laws.MatchesRow.append_toNat ..
  have hlt := mag.isLt
  have hne : mag.toNat ≠ 0 := fun h0 => h (BitVec.eq_of_toNat_eq h0)
  rw [decodeRequest_eq_tests, if_neg (by omega), if_pos (by omega), hmag]

theorem decodeRequest_lnSpecial (frac : BitVec 112) :
    decodeRequest (0#1 ++ 0x7FFF#15 ++ frac) = .lnSpecial frac := by
  have hfrac : XF.frac (0#1 ++ 0x7FFF#15 ++ frac) = frac := XF.frac_pack ..
  have hn : (0#1 ++ 0x7FFF#15 ++ frac : XF).toNat = 0x7FFF * 2 ^ 112 + frac.toNat :=
    Laws.MatchesRow.append_toNat ..
  have hlt := frac.isLt
  rw [decodeRequest_eq_tests, if_neg (by omega), if_neg (by omega), if_pos (by omega), hfrac]

theorem decodeRequest_lnNear1Below (low : BitVec 106) :
    decodeRequest (0x0FFFBF#22 ++ low) = .lnNear1Below low := by
  have hn : (0x0FFFBF#22 ++ low : XF).toNat = 0x0FFFBF * 2 ^ 106 + low.toNat :=
    Laws.MatchesRow.append_toNat ..
  have hlt := low.isLt
  rw [decodeRequest_eq_tests, if_neg (by omega), if_neg (by omega), if_neg (by omega), if_neg (by omega),
    if_pos (by omega), extractLsb'_zero_append]

theorem decodeRequest_lnNear1Above {low : BitVec 105} (h : low ≠ 0) :
    decodeRequest (0x1FFF80#23 ++ low) = .lnNear1Above low := by
  have hn : (0x1FFF80#23 ++ low : XF).toNat = 0x1FFF80 * 2 ^ 105 + low.toNat :=
    Laws.MatchesRow.append_toNat ..
  have hlt := low.isLt
  have hne : low.toNat ≠ 0 := fun h0 => h (BitVec.eq_of_toNat_eq h0)
  rw [decodeRequest_eq_tests, if_neg (by omega), if_neg (by omega), if_neg (by omega), if_neg (by omega),
    if_neg (by omega), if_pos (by omega), extractLsb'_zero_append]

theorem decodeRequest_lnGen {x : XF} (h : isGenWord x = true) : decodeRequest x = .lnGen x := by
  obtain ⟨hpos, hne, hfin, hband⟩ := (isGenWord_iff x).mp h
  rw [decodeRequest_eq_tests, if_neg (by omega), if_neg (by omega), if_neg hfin, if_neg (by omega),
    if_neg (by omega), if_neg (by omega), if_neg (by omega)]

theorem decodeRequest_of_encode {i : Instr} {x : XF} (h : encode i = .req x) (hwf : i.wellFormed = true)
    (hln : ∀ y, i ≠ .ln y) : decodeRequest x = i := by
  cases i
  case ln y => exact absurd rfl (hln y)
  case lnZero sign => cases h; exact decodeRequest_lnZero sign
  case lnNeg mag => cases h; exact decodeRequest_lnNeg (bne_iff_ne.mp hwf)
  case lnSpecial frac => cases h; exact decodeRequest_lnSpecial frac
  case lnOne => cases h; decide
  case lnNear1Below low => cases h; exact decodeRequest_lnNear1Below low
  case lnNear1Above low => cases h; exact decodeRequest_lnNear1Above (bne_iff_ne.mp hwf)
  case lnNear1Top => cases h; decide
  case lnGen y => cases h; exact decodeRequest_lnGen hwf
  all_goals exact nomatch h

/-! The table of the sequencer codes (R74) -/

theorem decodeUop_of_encode {i : Instr} {c : StepCode} (h : encode i = .uop c) : decodeUop c = some i := by
  cases i <;> cases h <;> rfl

theorem encode_of_mem_decodeUop : ∀ c : StepCode, ∀ i ∈ decodeUop c,
    i.wellFormed = true ∧ encode i = .uop c := by
  decide

theorem encode_of_decodeUop {c : StepCode} {i : Instr} (h : decodeUop c = some i) : encode i = .uop c :=
  (encode_of_mem_decodeUop c i h).2

theorem decode_uop_eq_ok_iff {c : StepCode} {i : Instr} : decode (.uop c) = .ok i ↔ decodeUop c = some i := by
  rw [decode]
  cases decodeUop c <;> simp

theorem decodeUop_eq_none_iff : ∀ c : StepCode, decodeUop c = none ↔ 56 ≤ c.toNat := by decide

/-- Settles O1: a request row's word passes the tests of the rows before it and meets its own; a code is read
off the table. -/
theorem decodeInvertsEncode : Obligations.DecodeInvertsEncode := by
  intro i hwf hln
  cases h : encode i with
  | req x => exact congrArg Except.ok (decodeRequest_of_encode h hwf hln)
  | uop c => exact decode_uop_eq_ok_iff.mpr (decodeUop_of_encode h)

theorem encode_decodeRequest (x : XF) :
    (decodeRequest x).wellFormed = true ∧ encode (decodeRequest x) = .req x := by
  have hlt := x.isLt
  rw [decodeRequest_eq_tests]
  split_ifs with hzero hneg hspecial hone hbelow habove htop
  · exact ⟨rfl, congrArg CodeWord.req <| BitVec.eq_of_toNat_eq <| by
      rw [encode_lnZero_toNat, XF.sign_toNat]; omega⟩
  · refine ⟨bne_iff_ne.mpr (mt x.mag_eq_zero_iff.mp hzero), congrArg CodeWord.req ?_⟩
    exact append_extractLsb'_zero rfl (show _ = 1 by omega)
  · refine ⟨rfl, congrArg CodeWord.req ?_⟩
    exact append_extractLsb'_zero rfl (show _ = 0x7FFF by omega)
  · exact ⟨rfl, congrArg CodeWord.req (BitVec.eq_of_toNat_eq hone.symm)⟩
  · exact ⟨rfl, congrArg CodeWord.req (append_extractLsb'_zero rfl hbelow)⟩
  · refine ⟨bne_iff_ne.mpr fun h0 => ?_, congrArg CodeWord.req (append_extractLsb'_zero rfl habove)⟩
    have hlow : x.toNat % 2 ^ 105 = 0 := by simpa using congrArg BitVec.toNat h0
    omega
  · exact ⟨rfl, congrArg CodeWord.req (BitVec.eq_of_toNat_eq htop.symm)⟩
  · refine ⟨(isGenWord_iff x).mpr ?_, rfl⟩
    omega

/-- Settles O2: on a request word the tests passed and failed give back every bit; on a code the table does. -/
theorem encodeInvertsDecode : Obligations.EncodeInvertsDecode := by
  intro w i h
  cases w with
  | req x =>
    obtain rfl : decodeRequest x = i := Except.ok.inj h
    exact encode_decodeRequest x
  | uop c => exact encode_of_mem_decodeUop c i (decode_uop_eq_ok_iff.mp h)

/-- Settles O4: each word is one the table's rows fix, so the decoder evaluates on it. -/
theorem tableWordsDecode : Obligations.TableWordsDecode := by
  refine ⟨rfl, rfl, rfl, rfl, rfl, rfl, rfl, rfl, ?_, ?_, ?_, ?_, ?_, ?_, ?_, ?_⟩ <;> decide

end Sys2Proof
end

section
/-! PROOFS. The operand classes (R81) and `BAND` (R191) by value: the order of the values is the order of the
sign-and-magnitude integers (R102, R113), so both are tests on the number of the word. -/

namespace Sys2Proof

namespace FP

/-- The ordering integer of an encoding, from the number of its word. -/
theorem orderKey_eq_toNat (x : XF) :
    orderKey x = if 2 ^ 127 ≤ x.toNat then (2 ^ 127 : ℤ) - x.toNat else (x.toNat : ℤ) := by
  have hlt := x.isLt
  have hmag := x.mag_toNat
  simp only [orderKey, XF.sign_eq_one_iff]
  split_ifs <;> omega

theorem zero_lt_val_iff (x : XF) : 0 < val x ↔ 0 < orderKey x := by
  rw [← not_le, ← val_zeroWord, ← orderKey_le_orderKey_iff, not_le]
  rfl

theorem val_eq_val_iff (a b : XF) : val a = val b ↔ orderKey a = orderKey b := by
  rw [le_antisymm_iff, le_antisymm_iff, orderKey_le_orderKey_iff, orderKey_le_orderKey_iff]

end FP

namespace Machine

theorem val_eq_one_iff (x : XF) : FP.val x = 1 ↔ FP.orderKey x = 0x3FFF * 2 ^ 112 := by
  obtain ⟨-, -, -, hone, -, -⟩ := const_values
  rw [← hone, FP.val_eq_val_iff]
  rfl

theorem bandLo_le_val_iff (x : XF) : 127 / 128 ≤ FP.val x ↔ 0x3FFEFC * 2 ^ 104 ≤ FP.orderKey x := by
  obtain ⟨-, -, -, -, hlo, -⟩ := const_values
  rw [← hlo, ← FP.orderKey_le_orderKey_iff]
  rfl

theorem val_le_bandHi_iff (x : XF) : FP.val x ≤ 129 / 128 ↔ FP.orderKey x ≤ 0x3FFF02 * 2 ^ 104 := by
  obtain ⟨-, -, -, -, -, hhi⟩ := const_values
  rw [← hhi, ← FP.orderKey_le_orderKey_iff]
  rfl

/-! The six classes (R81) -/

/-- The request row of a word gives the class; its three band rows join into one interval. -/
theorem pathOf_eq_tests (x : XF) : pathOf x =
    if x.toNat % 2 ^ 127 = 0 then .zero
    else if 2 ^ 127 ≤ x.toNat then .neg
    else if 0x7FFF * 2 ^ 112 ≤ x.toNat then .special
    else if x.toNat = 0x3FFF * 2 ^ 112 then .one
    else if 0x3FFEFC * 2 ^ 104 ≤ x.toNat ∧ x.toNat ≤ 0x3FFF02 * 2 ^ 104 then .near1
    else .gen := by
  have hlt := x.isLt
  rw [pathOf, decodeRequest_eq_tests]
  split_ifs
  any_goals rfl
  all_goals omega

theorem isFinite_iff_toNat (x : XF) : x.isFinite = true ↔ x.toNat % 2 ^ 127 < 0x7FFF * 2 ^ 112 := by
  rw [XF.isFinite_iff_mag, XF.mag_toNat]

theorem isZero_iff_toNat (x : XF) : x.isZero = true ↔ x.toNat % 2 ^ 127 = 0 := by
  rw [XF.isZero_iff_mag, XF.mag_toNat]

theorem sign_eq_zero_iff (x : XF) : x.sign = 0 ↔ x.toNat < 2 ^ 127 := by
  rw [← not_le, ← XF.sign_eq_one_iff]
  obtain h | h := BitVec.eq_zero_or_eq_one x.sign <;> rw [h] <;> decide

/-- Settles O3: both sides of each clause are conditions on the number of the word. -/
theorem operandClassesByValue : Obligations.OperandClassesByValue := by
  intro x
  have hlt := x.isLt
  simp only [pathOf_eq_tests, val_eq_one_iff, bandLo_le_val_iff, val_le_bandHi_iff, ne_eq,
    FP.zero_lt_val_iff, FP.orderKey_eq_toNat, ← Bool.not_eq_true, isFinite_iff_toNat, isZero_iff_toNat,
    sign_eq_zero_iff, XF.sign_eq_one_iff]
  refine ⟨?_, ?_, ?_, ?_, ?_, ?_⟩ <;> split_ifs <;> simp <;> omega

/-! `BAND` (R191) -/

theorem eq_constOne_iff (x : XF) : x = constOne ↔ FP.val x = 1 := by
  have hlt := x.isLt
  have hone : constOne.toNat = 0x3FFF * 2 ^ 112 := rfl
  rw [val_eq_one_iff, eq_word_iff, hone, FP.orderKey_eq_toNat]
  split_ifs <;> omega

/-- Where `BAND` goes: 1.0 first, then the closed band, then the general path. -/
def bandSuccessor (x : XF) : StepCode :=
  if FP.val x = 1 then 11 else if 127 / 128 ≤ FP.val x ∧ FP.val x ≤ 129 / 128 then 12 else 13

theorem fle_bandLo {x : XF} (h : x.isNaN = false) :
    FP.fle constBandLo x = some (decide (127 / 128 ≤ FP.val x)) := by
  obtain ⟨-, -, -, -, hlo, -⟩ := const_values
  rw [FP.fle_of_not_isNaN (by decide) h]
  simp only [FP.orderKey_le_orderKey_iff, hlo]

theorem fle_bandHi {x : XF} (h : x.isNaN = false) :
    FP.fle x constBandHi = some (decide (FP.val x ≤ 129 / 128)) := by
  obtain ⟨-, -, -, -, -, hhi⟩ := const_values
  rw [FP.fle_of_not_isNaN h (by decide)]
  simp only [FP.orderKey_le_orderKey_iff, hhi]

theorem bandSuccessor_eq (x : XF) : bandSuccessor x =
    if x == constOne then 11
    else if decide (127 / 128 ≤ FP.val x) && decide (FP.val x ≤ 129 / 128) then 12 else 13 := by
  simp only [bandSuccessor, ← eq_constOne_iff, beq_iff_eq, Bool.and_eq_true, decide_eq_true_eq]

theorem exec_band {s : State} {x : XF} (hx : s.x = .holding x) (hnan : x.isNaN = false) :
    exec .band s = .next { s with
      near1 := .holding (decide (127 / 128 ≤ FP.val x ∧ FP.val x ≤ 129 / 128))
      isone := .holding (decide (FP.val x = 1)), step := bandSuccessor x } := by
  change execBand s = _
  rw [execBand, readReg_of_holding hx, readRom_const4, readRom_const5, readRom_const3, fle_bandLo hnan,
    fle_bandHi hnan, Bool.decide_and, bandSuccessor_eq]
  simp only [← eq_constOne_iff, ← beq_eq_decide]
  rfl

theorem exec_band_of_isNaN {s : State} {x : XF} (hx : s.x = .holding x) (hnan : x.isNaN = true) :
    exec .band s = .refused .fleOfNan := by
  change execBand s = _
  rw [execBand, readReg_of_holding hx, readRom_const4, readRom_const5, readRom_const3,
    FP.fle_of_isNaN (.inr hnan)]

/-- An infinity lies outside the band: its ordering integer is beyond every finite one's. -/
theorem not_inBand_of_isInf {x : XF} (h : x.isInf = true) :
    ¬ (127 / 128 ≤ FP.val x ∧ FP.val x ≤ 129 / 128) ∧ FP.val x ≠ 1 := by
  have hkey := FP.orderKey_of_isInf h
  rw [bandLo_le_val_iff, val_le_bandHi_iff, ne_eq, val_eq_one_iff, hkey, FP.infKey]
  split_ifs <;> omega

/-- Settles O30: on a non-NaN both comparisons answer by value, so 1.0 and the band are told by value. -/
theorem bandTestsTheOriginalOperand : Obligations.BandTestsTheOriginalOperand := by
  intro s x hx
  refine ⟨fun hfin => exec_band hx (XF.isNaN_of_isFinite hfin), fun hinf => ?_, exec_band_of_isNaN hx⟩
  obtain ⟨hband, hone⟩ := not_inBand_of_isInf hinf
  rw [exec_band hx (XF.isNaN_of_isInf hinf), decide_eq_false hband, decide_eq_false hone, bandSuccessor,
    if_neg hone, if_neg hband]

end Machine

end Sys2Proof
end

section
/-! PROOFS. What every micro-operation reads, writes and leaves unchanged (R24, R25, R31, R74): one rule for each
state operation, and one statement about each row of the table built from them. -/

namespace Sys2Proof.Machine

/-! A register by its name -/

/-- What a register of R24 or R25 holds. -/
def Reg.Content : Reg → Type
  | .sgn => BitVec 1
  | .bexp => BitVec 15
  | .frac => BitVec 112
  | .cls => OperandClass
  | .e0 | .e => BitVec 16
  | .sig => BitVec 113
  | .m17 => BitVec 17
  | .tierb | .near1 | .isone => Bool
  | .j | .k => BitVec 7
  | .x | .u | .t | .z | .w | .p | .ef | .tmp | .y => XF

/-- The register of a name. -/
def State.register (s : State) : (r : Reg) → Register r.Content
  | .sgn => s.sgn
  | .bexp => s.bexp
  | .frac => s.frac
  | .cls => s.cls
  | .e0 => s.e0
  | .sig => s.sig
  | .m17 => s.m17
  | .tierb => s.tierb
  | .j => s.j
  | .k => s.k
  | .e => s.e
  | .near1 => s.near1
  | .isone => s.isone
  | .x => s.x
  | .u => s.u
  | .t => s.t
  | .z => s.z
  | .w => s.w
  | .p => s.p
  | .ef => s.ef
  | .tmp => s.tmp
  | .y => s.y

/-- The state with one register replaced. -/
def State.set (s : State) : (r : Reg) → Register r.Content → State
  | .sgn, v => { s with sgn := v }
  | .bexp, v => { s with bexp := v }
  | .frac, v => { s with frac := v }
  | .cls, v => { s with cls := v }
  | .e0, v => { s with e0 := v }
  | .sig, v => { s with sig := v }
  | .m17, v => { s with m17 := v }
  | .tierb, v => { s with tierb := v }
  | .j, v => { s with j := v }
  | .k, v => { s with k := v }
  | .e, v => { s with e := v }
  | .near1, v => { s with near1 := v }
  | .isone, v => { s with isone := v }
  | .x, v => { s with x := v }
  | .u, v => { s with u := v }
  | .t, v => { s with t := v }
  | .z, v => { s with z := v }
  | .w, v => { s with w := v }
  | .p, v => { s with p := v }
  | .ef, v => { s with ef := v }
  | .tmp, v => { s with tmp := v }
  | .y, v => { s with y := v }

theorem State.holdsReg_eq (s : State) (r : Reg) : s.holdsReg r = (s.register r).holds := by
  cases r <;> rfl

theorem State.register_set_self (s : State) (r : Reg) (v : Register r.Content) :
    (s.set r v).register r = v := by
  cases r <;> rfl

theorem State.register_set_of_ne (s : State) {r q : Reg} (v : Register r.Content) (h : q ≠ r) :
    (s.set r v).register q = s.register q := by
  cases r <;> cases q
  any_goals rfl
  all_goals exact absurd rfl h

theorem State.set_others (s : State) (r : Reg) (v : Register r.Content) :
    (s.set r v).params = s.params ∧ (s.set r v).inputs = s.inputs ∧ (s.set r v).edges = s.edges := by
  cases r <;> exact ⟨rfl, rfl, rfl⟩

theorem State.register_goto (s : State) (c : StepCode) (r : Reg) : (s.goto c).register r = s.register r := by
  cases r <;> rfl

theorem State.register_raise (s : State) (f : FlagBits) (r : Reg) :
    (s.raise f).register r = s.register r := by
  cases r <;> rfl

/-! The frame of a register transfer -/

/-- `t` is `s` after a transfer that writes the registers `ws`, and may raise flags and change `STEP`. -/
structure Frame (ws : List Reg) (s t : State) : Prop where
  kept : ∀ r, r ∉ ws → t.register r = s.register r
  written : ∀ r ∈ ws, t.holdsReg r = true
  params : t.params = s.params
  inputs : t.inputs = s.inputs
  edges : t.edges = s.edges

namespace Frame

theorem refl (s : State) : Frame [] s s := ⟨fun _ _ => rfl, nofun, rfl, rfl, rfl⟩

section
variable {ws : List Reg} {s t : State} (h : Frame ws s t)
include h

theorem goto (c : StepCode) : Frame ws s (t.goto c) where
  kept r hr := (t.register_goto c r).trans (h.kept r hr)
  written r hr := by rw [State.holdsReg_eq, State.register_goto, ← State.holdsReg_eq, h.written r hr]
  params := h.params
  inputs := h.inputs
  edges := h.edges

theorem raise (f : FlagBits) : Frame ws s (t.raise f) where
  kept r hr := (t.register_raise f r).trans (h.kept r hr)
  written r hr := by rw [State.holdsReg_eq, State.register_raise, ← State.holdsReg_eq, h.written r hr]
  params := h.params
  inputs := h.inputs
  edges := h.edges

theorem write {r : Reg} {v : Register r.Content} {u : State} (hu : u = t.set r v) (hv : v.holds = true) :
    Frame (r :: ws) s u := by
  subst hu
  obtain ⟨hparams, hinputs, hedges⟩ := t.set_others r v
  refine ⟨fun q hq => ?_, fun q hq => ?_, hparams.trans h.params, hinputs.trans h.inputs,
    hedges.trans h.edges⟩
  · rw [List.mem_cons, not_or] at hq
    exact (t.register_set_of_ne v hq.1).trans (h.kept q hq.2)
  · rw [State.holdsReg_eq]
    obtain rfl | hne := eq_or_ne q r
    · rw [State.register_set_self, hv]
    · rw [State.register_set_of_ne t v hne, ← State.holdsReg_eq]
      exact h.written q (List.mem_of_ne_of_mem hne hq)

theorem holdsReg {r : Reg} (hr : s.holdsReg r = true ∨ r ∈ ws) : t.holdsReg r = true := by
  by_cases hmem : r ∈ ws
  · exact h.written r hmem
  · rw [State.holdsReg_eq, h.kept r hmem, ← State.holdsReg_eq]
    exact hr.resolve_right hmem

end

/-! A primitive's result written to its destination (R11) -/

section
variable {s : State} (r : FP.Result) (c : StepCode)

theorem fpTmp : Frame [.tmp] s ((s.fpTmp r).goto c) := (((refl s).raise _).write rfl rfl).goto c
theorem fpY : Frame [.y] s ((s.fpY r).goto c) := (((refl s).raise _).write rfl rfl).goto c
theorem fpZ : Frame [.z] s (s.fpZ r) := ((refl s).raise _).write rfl rfl
theorem fpW : Frame [.w] s ((s.fpW r).goto c) := (((refl s).raise _).write rfl rfl).goto c
theorem fpP : Frame [.p] s ((s.fpP r).goto c) := (((refl s).raise _).write rfl rfl).goto c

end

end Frame

/-! What a micro-operation does -/

/-- The code that follows a code (R74), `CLASSIFY` and `BAND` going where they decide (R160, R191). -/
def codeAfter (fromClassify fromBand : StepCode) (c : StepCode) : StepCode :=
  match c.toNat with
  | 2 => fromClassify
  | 3 | 5 | 6 | 11 => 55
  | 10 => fromBand
  | 12 => 15
  | _ => c + 1

/-- The code that follows code `c`: of `DONE` the port decides (R246), of every other code the table. -/
def successor (c : StepCode) (s : State) : StepCode :=
  if c = 55 then if s.pins.rspReady then 0 else 55
  else codeAfter (classSuccessor (classOf s.sgn.value s.bexp.value s.frac.value))
    (bandSuccessor s.x.value) c

/-- The registers a micro-operation writes: the written-by columns of R24 and R25. -/
def writesOf : Instr → List Reg
  | .decomp => [.frac, .bexp, .sgn]
  | .classify => [.cls]
  | .norm => [.sig, .e0]
  | .index => [.e, .k, .j, .tierb, .m17]
  | .tbuild => [.u, .t]
  | .band => [.isone, .near1]
  | .znear => [.e, .t, .k, .z]
  | .zdiv => [.z]
  | .sqr => [.w]
  | .pinit | .qmul => [.p]
  | .pmul14 | .pmul13 | .pmul12 | .pmul11 | .pmul10 | .pmul9 => [.p]
  | .pmul8 | .pmul7 | .pmul6 | .pmul5 | .pmul4 | .pmul3 => [.p]
  | .padd14 | .padd13 | .padd12 | .padd11 | .padd10 | .padd9 => [.p]
  | .padd8 | .padd7 | .padd6 | .padd5 | .padd4 | .padd3 => [.p]
  | .ecvt => [.ef]
  | .spcNeg1 | .zsub | .hw | .eb | .lut | .tm1 | .ea => [.tmp]
  | .spcZero | .spcNeg2 | .spcInfnan | .spcOne | .ser => [.y]
  | .acc1 | .acc2 | .acc3 | .acc4 | .acc5 | .acc6 => [.y]
  | _ => []

/-- Where the two partial reads of a micro-operation answer: the table index of `LUT` (R52) and the operand of
`BAND` (R113). -/
def Defined (i : Instr) (s : State) : Prop :=
  (i = .lut → s.k.value.toNat < 92) ∧ (i = .band → s.x.value.isNaN = false)

/-- The outcome `r` of a micro-operation of code `c` that reads the registers `reads`, writes `writes`, and
completes under the condition `ok`. -/
structure Performs (s : State) (c : StepCode) (reads writes : List Reg) (ok : Prop) (r : Result) : Prop where
  fault_of_unheld : ∀ q ∈ reads, s.holdsReg q = false →
    ∃ q' ∈ reads, s.holdsReg q' = false ∧ r = .fault (.noValue q')
  ne_fault : (∀ q ∈ reads, s.holdsReg q = true) → ∀ f, r ≠ .fault f
  completes : (∀ q ∈ reads, s.holdsReg q = true) → ok → ∃ t, r = .next t
  of_next : ∀ t, r = .next t → Frame writes s t ∧ (s.step = c → t.step = successor c s)

namespace Performs
variable {s : State} {c : StepCode} {reads writes : List Reg} {ok : Prop}

theorem next {t : State} (hf : Frame writes s t) (hc : s.step = c → t.step = successor c s) :
    Performs s c [] writes ok (.next t) where
  fault_of_unheld := nofun
  ne_fault := nofun
  completes _ _ := ⟨t, rfl⟩
  of_next _ h := by cases h; exact ⟨hf, hc⟩

theorem refused {q : Refusal} (h : ¬ ok) : Performs s c [] writes ok (.refused q) where
  fault_of_unheld := nofun
  ne_fault := nofun
  completes _ hok := absurd hok h
  of_next _ hnext := nomatch hnext

theorem readReg {α : Type} {name : Reg} {reg : Register α} {k : α → Result}
    (hholds : s.holdsReg name = reg.holds) (h : Performs s c reads writes ok (k reg.value)) :
    Performs s c (name :: reads) writes ok (readReg name reg k) := by
  cases hheld : reg.holds with
  | false =>
    rw [hheld] at hholds
    rw [readReg_of_unheld hheld]
    have hnot : ¬ ∀ q ∈ name :: reads, s.holdsReg q = true := fun hall => by simp [hall] at hholds
    exact ⟨fun _ _ _ => ⟨name, List.mem_cons_self, hholds, rfl⟩, fun hall => absurd hall hnot,
      fun hall => absurd hall hnot, fun _ hnext => nomatch hnext⟩
  | true =>
    rw [hheld] at hholds
    rw [readReg_of_holds hheld]
    refine ⟨fun q hq hunheld => ?_, fun hall => h.ne_fault fun q hq => hall q (List.mem_cons_of_mem _ hq),
      fun hall => h.completes fun q hq => hall q (List.mem_cons_of_mem _ hq), h.of_next⟩
    have hne : q ≠ name := fun heq => by simp [heq, hholds] at hunheld
    obtain ⟨q', hq', hout⟩ := h.fault_of_unheld q (List.mem_of_ne_of_mem hne hq) hunheld
    exact ⟨q', List.mem_cons_of_mem _ hq', hout⟩

theorem readRom {sp : RomSpace} {n : ℕ} {k : XF → Result} {v : XF}
    (hv : romRead s.params sp n = some v) (h : Performs s c reads writes ok (k v)) :
    Performs s c reads writes ok (readRom s sp n k) := by
  rwa [readRom_of_word hv]

end Performs

/-! The rows of the table -/

section
variable {s : State} {c : StepCode} {ok : Prop}

theorem performs_pmul (h : s.step = c → s.step + 1 = successor c s) :
    Performs s c [.p, .z] [.p] ok (pmul s) :=
  .readReg rfl (.readReg rfl (.next (.fpP _ _) h))

theorem performs_padd {n : ℕ} (hmin : 3 ≤ n) (hmax : n ≤ 15) (h : s.step = c → s.step + 1 = successor c s) :
    Performs s c [.p] [.p] ok (padd n s) :=
  .readReg rfl (.readRom (romRead_coef _ hmin hmax) (.next (.fpP _ _) h))

theorem performs_addTmpToY {d : StepCode} (h : d = successor c s) :
    Performs s c [.y, .tmp] [.y] ok (addTmpToY d s) :=
  .readReg rfl (.readReg rfl (.next (.fpY _ _) fun _ => h))

end

theorem performs_exec_index (s : State) (ok : Prop) :
    Performs s 8 [.sig, .e0] (writesOf .index) ok (exec .index s) := by
  unfold exec execIndex
  refine .readReg rfl (.readReg rfl ?_)
  dsimp only
  split
  · exact .next ((((((Frame.refl s).write rfl rfl).write rfl rfl).write rfl rfl).write rfl rfl).write
      rfl rfl |>.goto _) fun _ => rfl
  · exact .next ((((((Frame.refl s).write rfl rfl).write rfl rfl).write rfl rfl).write rfl rfl).write
      rfl rfl |>.goto _) fun _ => rfl

theorem performs_exec_band (s : State) :
    Performs s 10 [.x] (writesOf .band) (Defined .band s) (exec .band s) := by
  unfold exec execBand
  refine .readReg rfl (.readRom (v := constBandLo) rfl (.readRom (v := constBandHi) rfl
    (.readRom (v := constOne) rfl ?_)))
  cases hnan : s.x.value.isNaN with
  | true =>
    rw [FP.fle_of_isNaN (.inr hnan)]
    exact .refused fun h => by simp [h.2 rfl] at hnan
  | false =>
    rw [fle_bandLo hnan, fle_bandHi hnan]
    refine .next ((((Frame.refl s).write rfl rfl).write rfl rfl).goto _) fun _ => ?_
    exact (bandSuccessor_eq s.x.value).symm

theorem performs_exec_lut (s : State) :
    Performs s 49 [.k] (writesOf .lut) (Defined .lut s) (exec .lut s) := by
  unfold exec execLut
  refine .readReg rfl ?_
  obtain h | h := lt_or_ge s.k.value.toNat 92
  · exact .readRom (romRead_logtbl s.params ⟨_, h⟩)
      (.next (((Frame.refl s).write rfl rfl).goto _) fun _ => rfl)
  · rw [readRom_logtbl_outside s _ h]
    exact .refused fun hok => (hok.1 rfl).not_ge h

/-- One statement about every micro-operation but `IDLE`: it faults on a register that holds no value, else
completes where it is defined, writes its registers and goes to its successor (R31, R74). -/
theorem performs_exec {i : Instr} {c : StepCode} (s : State) (h : encode i = .uop c) (hidle : i ≠ .idle) :
    Performs s c (readsOf i) (writesOf i) (Defined i s) (exec i s) := by
  cases i <;> cases h <;> unfold exec
  case idle => exact absurd rfl hidle
  case decomp =>
    exact .readReg rfl
      (.next (((((Frame.refl s).write rfl rfl).write rfl rfl).write rfl rfl).goto _) fun _ => rfl)
  case classify =>
    exact .readReg rfl (.readReg rfl (.readReg rfl
      (.next (((Frame.refl s).write rfl rfl).goto _) fun _ => rfl)))
  case spcZero => exact .readRom rfl (.readRom rfl (.next (.fpY _ _) fun _ => rfl))
  case spcNeg1 => exact .readReg rfl (.next (.fpTmp _ _) fun _ => rfl)
  case spcNeg2 => exact .readReg rfl (.readRom rfl (.next (.fpY _ _) fun _ => rfl))
  case spcInfnan => exact .readReg rfl (.next (.fpY _ _) fun _ => rfl)
  case norm =>
    exact .readReg rfl (.readReg rfl
      (.next ((((Frame.refl s).write rfl rfl).write rfl rfl).goto _) fun _ => rfl))
  case index => exact performs_exec_index s _
  case tbuild =>
    exact .readReg rfl (.readReg rfl (.readReg rfl
      (.next ((((Frame.refl s).write rfl rfl).write rfl rfl).goto _) fun _ => rfl)))
  case band => exact performs_exec_band s
  case spcOne => exact .next (((Frame.refl s).write rfl rfl).goto _) fun _ => rfl
  case znear =>
    exact .readReg rfl (.readRom rfl
      (.next (((((Frame.fpZ _).write rfl rfl).write rfl rfl).write rfl rfl).goto _) fun _ => rfl))
  case zsub => exact .readReg rfl (.readReg rfl (.next (.fpTmp _ _) fun _ => rfl))
  case zdiv => exact .readReg rfl (.readReg rfl (.next ((Frame.fpZ _).goto _) fun _ => rfl))
  case sqr => exact .readReg rfl (.next (.fpW _ _) fun _ => rfl)
  case pinit =>
    exact .readRom (romRead_coef s.params (n := 15) (by norm_num) le_rfl)
      (.next (((Frame.refl s).write rfl rfl).goto _) fun _ => rfl)
  case pmul14 | pmul13 | pmul12 | pmul11 | pmul10 | pmul9 | pmul8 | pmul7 | pmul6 | pmul5 | pmul4 | pmul3 =>
    exact performs_pmul fun h => by rw [h]; rfl
  case padd14 | padd13 | padd12 | padd11 | padd10 | padd9 | padd8 | padd7 | padd6 | padd5 | padd4 | padd3 =>
    exact performs_padd (by norm_num) (by norm_num) fun h => by rw [h]; rfl
  case qmul => exact .readReg rfl (.readReg rfl (.next (.fpP _ _) fun _ => rfl))
  case ser => exact .readReg rfl (.readReg rfl (.next (.fpY _ _) fun _ => rfl))
  case hw => exact .readRom rfl (.readReg rfl (.next (.fpTmp _ _) fun _ => rfl))
  case acc1 => exact .readReg rfl (.readReg rfl (.next (.fpY _ _) fun _ => rfl))
  case ecvt => exact .readReg rfl (.next (((Frame.refl s).write rfl rfl).goto _) fun _ => rfl)
  case eb => exact .readReg rfl (.readRom rfl (.next (.fpTmp _ _) fun _ => rfl))
  case acc3 => exact .readReg rfl (.readReg rfl (.next (.fpY _ _) fun _ => rfl))
  case acc2 | acc4 | acc5 | acc6 => exact performs_addTmpToY rfl
  case lut => exact performs_exec_lut s
  case tm1 => exact .readReg rfl (.readRom rfl (.next (.fpTmp _ _) fun _ => rfl))
  case ea => exact .readReg rfl (.readRom rfl (.next (.fpTmp _ _) fun _ => rfl))
  case done =>
    unfold execDone
    refine .readReg rfl ?_
    split
    case isTrue h => exact .next ((Frame.refl s).goto 0) fun _ => (if_pos h).symm
    case isFalse h => exact .next ((Frame.refl s).goto 55) fun _ => (if_neg h).symm

/-! Consequences for every micro-operation -/

section
variable {i : Instr} {c : StepCode} {s : State} (h : encode i = .uop c)
include h

theorem frame_of_exec_next (hidle : i ≠ .idle) {t : State} (hnext : exec i s = .next t) :
    Frame (writesOf i) s t :=
  ((performs_exec s h hidle).of_next t hnext).1

end

end Sys2Proof.Machine
end

section
/-! PROOFS. The step (R23, R78, R280): what it does at an edge with `rst = 1`, on a reserved code, on the decoded
instruction; the handshake of `IDLE` and `DONE` (R245, R246); and that no other micro-operation looks at the
host's side (U13). -/

namespace Sys2Proof.Machine

/-! Reset, and reserved codes -/

theorem step_of_rst {s : State} (h : s.pins.rst = true) : step s = .next (s.resetEdge.advanceFrom s) := by
  rw [step, if_pos h]

theorem step_of_fetch {s : State} {i : Instr} (h : s.pins.rst = false) (hf : s.fetch = .ok i) :
    step s = advance s (exec i s) := by
  rw [step, if_neg (by simp [h]), hf]

theorem now_eq_edge_of_rst {s : State} (h : s.pins.rst = true) : ∃ p, s.now = .edge p := by
  unfold State.pins at h
  cases hn : s.now with
  | edge p => exact ⟨p, rfl⟩
  | line x => simp [hn] at h

theorem fetch_of_busy {s : State} (h : s.step ≠ 0) : s.fetch = decode (.uop s.step) := by
  have hline : s.acceptedLine = none := by
    unfold State.acceptedLine
    cases s.now with
    | edge p => rfl
    | line x => exact if_neg h
  rw [State.fetch, hline]

theorem fetch_of_edge {s : State} {p : PortIn} (h : s.now = .edge p) : s.fetch = decode (.uop s.step) := by
  have hline : s.acceptedLine = none := by rw [State.acceptedLine, h]
  rw [State.fetch, hline]

theorem fetch_of_line {s : State} {x : XF} (h : s.now = .line x) (h0 : s.step = 0) :
    s.fetch = decode (.req x) := by
  have hline : s.acceptedLine = some x := by rw [State.acceptedLine, h]; exact if_pos h0
  rw [State.fetch, hline]

/-- Settles O5: a reserved code is no row of the table, so the fetch of such a state is rejected by name. -/
theorem reservedCodesHaveNoStep : Obligations.ReservedCodesHaveNoStep := by
  intro s hcode hrst
  have hdec : decode (.uop s.step) = .error (.reservedCode s.step) := by
    rw [decode, (decodeUop_eq_none_iff s.step).mpr hcode]
  have hbusy : s.step ≠ 0 := fun h => by simp [h] at hcode
  refine ⟨hdec, ?_⟩
  rw [step, if_neg (by simp [hrst]), fetch_of_busy hbusy, hdec]

/-- Settles O6: the fetch is the decoded word in either case, and the outcome of `exec` is passed on. -/
theorem stepRunsTheDecodedInstruction : Obligations.StepRunsTheDecodedInstruction := by
  intro s i hrst hword
  have hfetch : s.fetch = .ok i := by
    obtain ⟨x, hline, hidle, hdec⟩ | ⟨hbusy, hdec⟩ := hword
    · rw [fetch_of_line hline hidle, hdec]
    · cases hn : s.now with
      | edge p => rw [fetch_of_edge hn, hdec]
      | line x => rw [fetch_of_busy (hbusy x hn), hdec]
  rw [step_of_fetch hrst hfetch]
  refine ⟨fun t ht => ?_, fun f hf => ?_, fun q hq => ?_⟩
  · rw [ht]
    rfl
  · rw [hf]
    rfl
  · rw [hq]
    rfl

theorem exec_idle_of_not_reqValid {s : State} (h : s.pins.reqValid = false) :
    exec .idle s = .next (s.goto 0) :=
  if_neg (by simp [h])

theorem exec_idle_of_reqValid {s : State} (h : s.pins.reqValid = true) :
    exec .idle s = .next (s.accept s.pins.reqX) :=
  if_pos h

theorem not_line_of_not_reqValid {s : State} (h : s.pins.reqValid = false) : ∃ p, s.now = .edge p := by
  unfold State.pins at h
  cases hn : s.now with
  | edge p => exact ⟨p, rfl⟩
  | line x => simp [hn] at h

/-- An idle block without a request is idle after the edge. -/
theorem step_idle_of_not_reqValid {s : State} (h0 : s.step = 0) (h : s.pins.reqValid = false) :
    ∃ u, step s = .next u ∧ u.step = 0 := by
  cases hrst : s.pins.rst with
  | true => exact ⟨_, step_of_rst hrst, by simp⟩
  | false =>
    obtain ⟨p, hp⟩ := not_line_of_not_reqValid h
    have hf : s.fetch = .ok .idle := by rw [fetch_of_edge hp, h0]; rfl
    exact ⟨_, by rw [step_of_fetch hrst hf, exec_idle_of_not_reqValid h]; rfl, by simp⟩

/-- Settles O7: an edge with `rst = 1` is the register transfer of R280, and an idle block stays idle. -/
theorem resetEdgeAbandonsEverything : Obligations.ResetEdgeAbandonsEverything := by
  intro s hrst
  obtain ⟨p, hp⟩ := now_eq_edge_of_rst hrst
  have hrem : s.remaining = s.inputs.tail := by rw [State.remaining, hp]
  refine ⟨_, step_of_rst hrst, rfl, rfl, fun r => by cases r <;> rfl, rfl, rfl, rfl, hrem, fun hreq => ?_⟩
  obtain ⟨u, hu, hu0⟩ := step_idle_of_not_reqValid (s := s.resetEdge.advanceFrom s) rfl hreq
  exact ⟨u, hu, hu0, by rw [State.rspValid, hu0]; rfl⟩

theorem reset_holdsReg (r : Reg) : State.reset.holdsReg r = false := by cases r <;> rfl

/-! The handshake -/

/-- Settles O51: `IDLE` is the accepting transfer, or only keeps its own code. -/
theorem idleAcceptsOrWaits : Obligations.IdleAcceptsOrWaits := by
  refine fun s => ⟨fun h => ⟨_, exec_idle_of_reqValid h, rfl, rfl, rfl, rfl, fun r hr => ?_, rfl, rfl, rfl⟩,
    fun h => exec_idle_of_not_reqValid h⟩
  cases r
  case x => exact absurd rfl hr
  all_goals rfl

theorem exec_done {s : State} (h : s.y.holds = true) :
    exec .done s = .next (s.goto (if s.pins.rspReady then 0 else 55)) := by
  change execDone s = _
  rw [execDone, readReg_of_holds h]
  split <;> rfl

/-- Settles O52: `DONE` writes `STEP` alone, and the outputs are read off the registers it keeps. -/
theorem doneHoldsTheResponse : Obligations.DoneHoldsTheResponse := by
  intro s hy
  have hout (h55 : s.step = 55) :
      s.rspValid = true ∧ s.reqReady = false ∧ s.rspY = s.y.value ∧ s.rspFlags = s.facc := by
    have hvalid : s.rspValid = true := by rw [State.rspValid, h55]; rfl
    refine ⟨hvalid, by rw [State.reqReady, h55]; rfl, State.rspY_of_held h55 hy, ?_⟩
    rw [State.rspFlags, if_pos hvalid]
  refine ⟨exec_done hy, hout, fun h55 hrst hready => ?_⟩
  obtain ⟨-, -, hrspY, hflags⟩ := hout h55
  have hbusy : s.step ≠ 0 := by rw [h55]; decide
  have hf : s.fetch = .ok .done := by rw [fetch_of_busy hbusy, h55]; rfl
  have hgoto : s.goto 55 = s := by rw [← h55]; rfl
  have hstep : step s = .next (s.advanceFrom s) := by
    rw [step_of_fetch hrst hf, exec_done hy, if_neg (by simp [hready]), hgoto]
    rfl
  have hvalid : (s.advanceFrom s).step = 55 := by simpa using h55
  refine ⟨_, hstep, by rw [State.rspValid, hvalid]; rfl, ?_, ?_, rfl⟩
  · rw [hrspY, State.rspY_of_held hvalid (by simpa using hy)]
    rfl
  · rw [hflags, State.rspFlags, State.rspValid, hvalid]
    rfl

/-! The host's side of the state -/

/-- The state with another host's side. -/
def State.withHost (s : State) (inputs : List HostInput) (edges : ℕ) : State :=
  { s with inputs := inputs, edges := edges }

/-- The outcome with another host's side. -/
def Outcome.withHost (r : Result) (inputs : List HostInput) (edges : ℕ) : Result :=
  andThen r fun t => .next (t.withHost inputs edges)

theorem andThen_readReg {α : Type} {name : Reg} {r : Register α} {k : α → Result} {g : State → Result} :
    andThen (readReg name r k) g = readReg name r fun v => andThen (k v) g := by
  unfold readReg
  split <;> rfl

theorem readReg_congr {α : Type} {name : Reg} {r : Register α} {k k' : α → Result} (h : ∀ v, k v = k' v) :
    readReg name r k = readReg name r k' :=
  congrArg (readReg name r) (funext h)

theorem andThen_readRom {s : State} {sp : RomSpace} {n : ℕ} {k : XF → Result} {g : State → Result} :
    andThen (readRom s sp n k) g = readRom s sp n fun v => andThen (k v) g := by
  unfold readRom
  split <;> rfl

theorem exec_withHost {i : Instr} {c : StepCode} (h : encode i = .uop c) (hidle : i ≠ .idle)
    (hdone : i ≠ .done) (s : State) (inputs : List HostInput) (edges : ℕ) :
    exec i (s.withHost inputs edges) = Outcome.withHost (exec i s) inputs edges := by
  cases i <;> cases h <;> unfold exec Outcome.withHost
  case idle => exact absurd rfl hidle
  case done => exact absurd rfl hdone
  case index =>
    simp only [execIndex, andThen_readReg]
    exact readReg_congr fun sig => readReg_congr fun e0 => by split <;> rfl
  case band =>
    simp only [execBand, andThen_readReg, readRom_const4, readRom_const5, readRom_const3]
    exact readReg_congr fun x => by split <;> rfl
  all_goals
    simp only [execDecomp, execClassify, execSpcZero, execSpcNeg1, execSpcNeg2, execSpcInfnan, execNorm,
      execTbuild, execSpcOne, execZnear, execZsub, execZdiv, execSqr, execPinit, pmul, padd, addTmpToY,
      execQmul, execSer, execHw, execAcc1, execEcvt, execEb, execAcc2, execAcc3, execLut, execAcc4, execTm1,
      execAcc5, execEa, execAcc6, execPmul14, execPmul13, execPmul12, execPmul11, execPmul10, execPmul9,
      execPmul8, execPmul7, execPmul6, execPmul5, execPmul4, execPmul3,
      execPadd14, execPadd13, execPadd12, execPadd11, execPadd10, execPadd9, execPadd8, execPadd7,
      execPadd6, execPadd5, execPadd4, execPadd3, andThen_readReg, andThen_readRom]
    rfl

/-- A micro-operation other than `IDLE` and `DONE` at an edge: its outcome does not hang on the ports, and the
edge is used up (R284). -/
theorem step_of_edge {s : State} {i : Instr} (hi : decodeUop s.step = some i) (hidle : i ≠ .idle)
    (hdone : i ≠ .done) {p : PortIn} (hrst : p.rst = false) (later : List HostInput) (n : ℕ) :
    step (s.withHost (.edge p :: later) n) = Outcome.withHost (exec i s) later (n + 1) := by
  have hf : (s.withHost (.edge p :: later) n).fetch = .ok i := by
    rw [fetch_of_edge (p := p) rfl]
    exact decode_uop_eq_ok_iff.mpr hi
  rw [step_of_fetch (s := s.withHost (.edge p :: later) n) hrst hf,
    exec_withHost (encode_of_decodeUop hi) hidle hdone]
  cases exec i s <;> rfl

theorem exec_done_of_edge (s : State) (p : PortIn) (later : List HostInput) (n : ℕ) :
    exec .done (s.withHost (.edge p :: later) n) =
      Outcome.withHost (readReg .y s.y fun _ => .next (s.goto (if p.rspReady then 0 else 55)))
        (.edge p :: later) n := by
  unfold exec execDone Outcome.withHost
  rw [andThen_readReg]
  exact readReg_congr fun y => by
    change (if p.rspReady = true then _ else _) = _
    split <;> rfl

/-- Settles O53: at a busy block only `DONE` looks at the ports, and it looks at `rsp_ready` alone. -/
theorem busyBlockIgnoresRequests : Obligations.BusyBlockIgnoresRequests := by
  intro s p q later hbusy hrst hready
  change step (s.withHost (.edge p :: later) s.edges) = step (s.withHost (.edge q :: later) s.edges)
  cases hp : p.rst with
  | true =>
    have hq : q.rst = true := hrst ▸ hp
    rw [step_of_rst (s := s.withHost (.edge p :: later) _) hp,
      step_of_rst (s := s.withHost (.edge q :: later) _) hq]
    rfl
  | false =>
    have hq : q.rst = false := hrst ▸ hp
    cases hi : decodeUop s.step with
    | none =>
      obtain ⟨-, hstuck_p⟩ := reservedCodesHaveNoStep (s.withHost (.edge p :: later) s.edges)
        ((decodeUop_eq_none_iff _).mp hi) hp
      obtain ⟨-, hstuck_q⟩ := reservedCodesHaveNoStep (s.withHost (.edge q :: later) s.edges)
        ((decodeUop_eq_none_iff _).mp hi) hq
      rw [hstuck_p, hstuck_q]
      rfl
    | some i =>
      have hidle : i ≠ .idle := fun h => by
        subst h
        exact hbusy (CodeWord.uop.inj (encode_of_decodeUop hi)).symm
      by_cases hdone : i = .done
      · subst hdone
        have hfetch (r : PortIn) : (s.withHost (.edge r :: later) s.edges).fetch = .ok .done := by
          rw [fetch_of_edge (p := r) rfl]
          exact decode_uop_eq_ok_iff.mpr hi
        rw [step_of_fetch (s := s.withHost (.edge p :: later) _) hp (hfetch p),
          step_of_fetch (s := s.withHost (.edge q :: later) _) hq (hfetch q), exec_done_of_edge,
          exec_done_of_edge, hready]
        cases readReg .y s.y fun _ => Host.Outcome.next (s.goto (if q.rspReady then 0 else 55)) <;> rfl
      · rw [step_of_edge hi hidle hdone hp, step_of_edge hi hidle hdone hq]

end Sys2Proof.Machine
end

section
/-! PROOFS. The transfers of the floating-point steps on any operands, and `LUT`. -/

namespace Sys2Proof.Machine

theorem exec_zdiv {s : State} {d t : XF} (hd : s.tmp = .holding d) (ht : s.t = .holding t) :
    exec .zdiv s = .next ((s.fpZ (FP.fdiv s.params.defaultNan d t)).goto 15) := by
  change execZdiv s = _
  rw [execZdiv, readReg_of_holding hd, readReg_of_holding ht]

theorem exec_sqr {s : State} {z : XF} (hz : s.z = .holding z) :
    exec .sqr s = .next ((s.fpW (FP.fmul s.params.defaultNan z z)).goto 16) := by
  change execSqr s = _
  rw [execSqr, readReg_of_holding hz]

theorem exec_qmul {s : State} {p z : XF} (hp : s.p = .holding p) (hz : s.z = .holding z) :
    exec .qmul s = .next ((s.fpP (FP.fmul s.params.defaultNan p z)).goto 42) := by
  change execQmul s = _
  rw [execQmul, readReg_of_holding hp, readReg_of_holding hz]

theorem exec_ser {s : State} {p w : XF} (hp : s.p = .holding p) (hw : s.w = .holding w) :
    exec .ser s = .next ((s.fpY (FP.fmul s.params.defaultNan p w)).goto 43) := by
  change execSer s = _
  rw [execSer, readReg_of_holding hp, readReg_of_holding hw]

/-- Settles O49: each transfer is the primitive of its rule written to its destination. -/
theorem floatingPointTransfers : Obligations.FloatingPointTransfers := fun _ _ _ =>
  ⟨exec_spcNeg1, exec_spcNeg2, exec_spcInfnan, exec_znear, exec_zsub, exec_zdiv, exec_sqr, exec_qmul,
    exec_ser, exec_hw, exec_eb, exec_tm1, exec_ea⟩

theorem exec_lut {s : State} {k : BitVec 7} {v : XF} (hk : s.k = .holding k)
    (hv : logtblRom[k.toNat]? = some v) : exec .lut s = .next ((s.writeTmp v).goto 50) := by
  have hword : romRead s.params .logtbl k.toNat = some v := hv
  change execLut s = _
  rw [execLut, readReg_of_holding hk, readRom_of_word hword]

theorem logtblRom_of_lt {n : ℕ} (h : n < 92) : logtblRom[n]? = some (logtblWord ⟨n, h⟩) :=
  List.getElem?_eq_getElem _

theorem exec_lut_outside {s : State} {k : BitVec 7} (hk : s.k = .holding k) (h : 92 ≤ k.toNat) :
    exec .lut s = .refused (.romIndex .logtbl k.toNat) := by
  change execLut s = _
  rw [execLut, readReg_of_holding hk, readRom_logtbl_outside s _ h]

/-- Settles O34: inside the table a copy, outside it a refusal; the anchor's word is `+0`. -/
theorem lutReadsTheTable : Obligations.LutReadsTheTable := by
  refine fun s k hk => ⟨fun v hv => exec_lut hk hv, fun h => ⟨_, logtblRom_of_lt (by omega)⟩,
    fun hanchor => ?_, exec_lut_outside hk⟩
  subst hanchor
  exact exec_lut hk rfl

end Sys2Proof.Machine
end

section
/-! PROOFS. The sequencer inside an operation (R74, R77, R190): from a state with the invariant every
micro-operation completes, keeps the invariant and goes where the operand's class sends it. -/

namespace Sys2Proof.Machine

/-! The class of an operand decides the two branches of the sequencer -/

/-- The code that follows code `c` in an operation on an operand of the class (R77). -/
def Path.next (p : Path) (c : StepCode) : StepCode :=
  codeAfter (match p with | .zero => 3 | .neg => 4 | .special => 6 | _ => 7)
    (match p with | .one => 11 | .near1 => 12 | _ => 13) c

theorem codeAfter_congr {a a' b b' c : StepCode} (ha : c = 2 → a = a') (hb : c = 10 → b = b') :
    codeAfter a b c = codeAfter a' b' c := by
  unfold codeAfter
  split
  case h_1 h => exact ha (BitVec.eq_of_toNat_eq h)
  case h_6 h => exact hb (BitVec.eq_of_toNat_eq h)
  all_goals rfl

theorem posFinite_iff_toNat (x : XF) :
    posFinite x = true ↔ 0 < x.toNat ∧ x.toNat < 0x7FFF * 2 ^ 112 := by
  have hlt := x.isLt
  simp only [posFinite, Bool.and_eq_true, beq_iff_eq, Bool.not_eq_true', ← Bool.not_eq_true,
    sign_eq_zero_iff, isFinite_iff_toNat, isZero_iff_toNat]
  omega

theorem classSuccessor_classOf (x : XF) :
    classSuccessor (classOf x.sign x.bexp x.frac) = (pathOf x).next 2 := by
  have hlt := x.isLt
  simp only [classOf_fields, pathOf_eq_tests, ← Bool.not_eq_true, isFinite_iff_toNat, isZero_iff_toNat,
    XF.sign_eq_one_iff]
  split_ifs
  any_goals rfl
  all_goals omega

theorem bandSuccessor_eq_next {x : XF} (h : posFinite x = true) : bandSuccessor x = (pathOf x).next 10 := by
  rw [posFinite_iff_toNat] at h
  simp only [bandSuccessor, val_eq_one_iff, bandLo_le_val_iff, val_le_bandHi_iff, FP.orderKey_eq_toNat,
    pathOf_eq_tests]
  split_ifs
  any_goals rfl
  all_goals omega

theorem posFinite_of_pathOf {x : XF} (h : (pathOf x).next 2 = 7) : posFinite x = true := by
  have hlt := x.isLt
  rw [posFinite_iff_toNat]
  rw [pathOf_eq_tests] at h
  split_ifs at h
  any_goals omega
  all_goals exact absurd h (by decide)

/-! The table of codes, registers and successors -/

/-- Every register read later is held, or written by the micro-operation (R24, R25, R31). -/
theorem live_of_live_next : ∀ (p : Path) (c : StepCode), 1 ≤ c.toNat → c.toNat ≤ 54 →
    ∀ i ∈ decodeUop c, ∀ r ∈ liveAt (p.next c), r ∈ liveAt c ∨ r ∈ writesOf i := by
  intro p
  cases p <;> decide

theorem live_of_mem_readsOf : ∀ c : StepCode, ∀ i ∈ decodeUop c, ∀ r ∈ readsOf i, r ∈ liveAt c := by
  decide

theorem next_le (p : Path) : ∀ c : StepCode, c.toNat ≤ 54 → (p.next c).toNat ≤ 55 := by
  cases p <;> decide

/-- Where a code comes from: `DECOMP` before `CLASSIFY`, `NORM` before `INDEX`, and the stretch from `NORM` to
`BAND` entered from `CLASSIFY` alone (R74). -/
theorem predecessors (p : Path) : ∀ c : StepCode, 1 ≤ c.toNat → c.toNat ≤ 54 →
    (p.next c = 2 → c = 1) ∧ (p.next c = 7 → c = 2) ∧ (p.next c = 8 → c = 7) ∧
    (7 ≤ (p.next c).toNat → (p.next c).toNat ≤ 10 → p.next c = 7 ∨ 7 ≤ c.toNat ∧ c.toNat ≤ 10) := by
  cases p <;> decide

/-- The index `K` is written by `INDEX` and `ZNEAR` alone, and kept from there to `LUT` (R190). -/
theorem index_predecessors (p : Path) : ∀ c : StepCode, 1 ≤ c.toNat → c.toNat ≤ 54 →
    9 ≤ (p.next c).toNat → (p.next c).toNat ≤ 49 → p.next c ≠ 11 → p.next c ≠ 12 →
    c = 8 ∨ c = 12 ∨ 9 ≤ c.toNat ∧ c.toNat ≤ 49 ∧ c ≠ 11 ∧ c ≠ 12 ∧ ∀ i ∈ decodeUop c, .k ∉ writesOf i := by
  cases p <;> decide

/-! The invariant along one micro-operation -/

theorem eq_holding_of_holds {α : Type} {r : Register α} (h : r.holds = true) : r = .holding r.value := by
  obtain ⟨value, holds⟩ := r
  cases h
  rfl

/-- What an operation in flight leaves as it is. -/
structure SameOperation (s t : State) : Prop where
  x : t.x = s.x
  params : t.params = s.params
  inputs : t.inputs = s.inputs
  edges : t.edges = s.edges

theorem SameOperation.refl (s : State) : SameOperation s s := ⟨rfl, rfl, rfl, rfl⟩

theorem SameOperation.trans {s t u : State} (h : SameOperation s t) (h' : SameOperation t u) :
    SameOperation s u :=
  ⟨h'.x.trans h.x, h'.params.trans h.params, h'.inputs.trans h.inputs, h'.edges.trans h.edges⟩

theorem x_not_mem_writesOf (i : Instr) : .x ∉ writesOf i := by cases i <;> simp [writesOf]

theorem code_eq_of_decodeUop {c d : StepCode} {i : Instr} (h : decodeUop c = some i)
    (henc : encode i = .uop d) : c = d :=
  CodeWord.uop.inj ((encode_of_decodeUop h).symm.trans henc)

section
variable {s : State} (h : s.Inv) {i : Instr} (hi : decodeUop s.step = some i)
include h hi

theorem State.Inv.reads : ∀ r ∈ readsOf i, s.holdsReg r = true := fun r hr =>
  h.live r (live_of_mem_readsOf s.step i hi r hr)

theorem State.Inv.defined : Defined i s := by
  constructor
  · rintro rfl
    have hstep := code_eq_of_decodeUop hi rfl
    have hk := h.index (by rw [hstep]; decide) (by rw [hstep]; decide) (by rw [hstep]; decide)
    omega
  · rintro rfl
    have hstep := code_eq_of_decodeUop hi rfl
    have hx := h.operand (by rw [hstep]; decide)
    obtain ⟨-, hfin, -⟩ := (posFinite_iff _).mp hx
    exact XF.isNaN_of_isFinite hfin

omit hi in
/-- Inside an operation the successor is the one of the operand's class. -/
theorem State.Inv.successor_eq (h55 : s.step ≠ 55) :
    successor s.step s = (pathOf s.x.value).next s.step := by
  rw [successor, if_neg h55]
  refine codeAfter_congr (fun hc => ?_) fun hc => ?_
  · obtain ⟨hsgn, hbexp, hfrac⟩ := h.fields (.inl hc)
    rw [hsgn, hbexp, hfrac]
    exact classSuccessor_classOf _
  · exact bandSuccessor_eq_next (h.operand (by rw [hc]; decide))

end

/-! What `DECOMP`, `NORM`, `INDEX` and `ZNEAR` establish -/

theorem fields_of_exec_decomp {s t : State} (hx : s.x.holds = true) (h : exec .decomp s = .next t) :
    t.sgn.value = t.x.value.sign ∧ t.bexp.value = t.x.value.bexp ∧ t.frac.value = t.x.value.frac := by
  rw [exec_decomp (eq_holding_of_holds hx), Host.Outcome.next.injEq] at h
  subst h
  exact ⟨rfl, rfl, rfl⟩

theorem sig_of_exec_norm {s t : State} (hb : s.bexp = .holding s.x.value.bexp)
    (hf : s.frac = .holding s.x.value.frac) (hx : posFinite s.x.value = true)
    (h : exec .norm s = .next t) : 2 ^ 112 ≤ t.sig.value.toNat := by
  obtain ⟨e0, sig, hexec, -, -, hsig, -⟩ := normGivesTheNormalisedSignificand s s.x.value hx hb hf
  rw [hexec, Host.Outcome.next.injEq] at h
  subst h
  exact hsig

/-- The index of a normalised significand lies in the table, whatever the exponent is (R182). -/
theorem k_of_exec_index {s t : State} (hs : s.sig.holds = true) (he : s.e0.holds = true)
    (hsig : 2 ^ 112 ≤ s.sig.value.toNat) (h : exec .index s = .next t) : t.k.value.toNat ≤ 90 := by
  have hm := toNat_m17 s.sig.value
  have hlt := (s.sig.value.extractLsb' 96 17).isLt
  by_cases htier : (s.sig.value.extractLsb' 96 17).toNat < 0x16800
  · have hj := toNat_tierAIndex (by omega) htier
    rw [exec_index_tierA (eq_holding_of_holds hs) (eq_holding_of_holds he)
      ((lt_tierThreshold_iff _).mpr htier), Host.Outcome.next.injEq] at h
    subst h
    change (tierAIndex (s.sig.value.extractLsb' 96 17) + 38).toNat ≤ 90
    rw [BitVec.toNat_add_of_lt (by change _ + 38 < _; omega)]
    change _ + 38 ≤ 90
    omega
  · have hj := toNat_tierBIndex (not_lt.mp htier)
    rw [exec_index_tierB (eq_holding_of_holds hs) (eq_holding_of_holds he)
      (mt (lt_tierThreshold_iff _).mp htier), Host.Outcome.next.injEq] at h
    subst h
    change (tierBIndex (s.sig.value.extractLsb' 96 17) - 26).toNat ≤ 90
    rw [BitVec.toNat_sub_of_le (BitVec.le_def.mpr (by change 26 ≤ _; omega))]
    change _ - 26 ≤ 90
    omega

theorem k_of_exec_znear {s t : State} (hx : s.x.holds = true) (h : exec .znear s = .next t) :
    t.k.value = 38 := by
  rw [exec_znear (eq_holding_of_holds hx), Host.Outcome.next.injEq] at h
  subst h
  rfl

/-! Preservation -/

section
variable {s t : State} {i : Instr} (h : s.Inv) (hi : decodeUop s.step = some i) (hlo : 1 ≤ s.step.toNat)
  (hhi : s.step.toNat ≤ 54) (ht : exec i s = .next t) (hf : Frame (writesOf i) s t)
  (hstep : t.step = (pathOf s.x.value).next s.step)
include h hi hlo hhi ht hf hstep

theorem fields_of_micro (hc : t.step = 2 ∨ t.step = 7) :
    t.sgn.value = t.x.value.sign ∧ t.bexp.value = t.x.value.bexp ∧ t.frac.value = t.x.value.frac := by
  obtain ⟨hdecomp, hclassify, -, -⟩ := predecessors (pathOf s.x.value) s.step hlo hhi
  rw [hstep] at hc
  obtain hc | hc := hc
  · rw [hdecomp hc] at hi
    obtain rfl : Instr.decomp = i := Option.some.inj hi
    exact fields_of_exec_decomp (h.live .x (by rw [hdecomp hc]; decide)) ht
  · have hs := hclassify hc
    have hfields := h.fields (.inl hs)
    rw [hs] at hi
    obtain rfl : Instr.classify = i := Option.some.inj hi
    have hx : t.x = s.x := hf.kept .x (by decide)
    have hsgn : t.sgn = s.sgn := hf.kept .sgn (by decide)
    have hbexp : t.bexp = s.bexp := hf.kept .bexp (by decide)
    have hfrac : t.frac = s.frac := hf.kept .frac (by decide)
    rwa [hx, hsgn, hbexp, hfrac]

omit hi ht in
theorem operand_of_micro (hc : 7 ≤ t.step.toNat ∧ t.step.toNat ≤ 10) : posFinite t.x.value = true := by
  obtain ⟨-, hclassify, -, hstretch⟩ := predecessors (pathOf s.x.value) s.step hlo hhi
  have hx : t.x = s.x := hf.kept .x (x_not_mem_writesOf i)
  rw [hx]
  rw [hstep] at hc
  obtain h7 | hrange := hstretch hc.1 hc.2
  · rw [hclassify h7] at h7
    exact posFinite_of_pathOf h7
  · exact h.operand hrange

theorem significand_of_micro (hc : t.step = 8) : 2 ^ 112 ≤ t.sig.value.toNat := by
  obtain ⟨-, -, hnorm, -⟩ := predecessors (pathOf s.x.value) s.step hlo hhi
  have hs := hnorm (hstep ▸ hc)
  obtain ⟨-, hbexp, hfrac⟩ := h.fields (.inr hs)
  have hb : s.bexp = .holding s.bexp.value := eq_holding_of_holds (h.live .bexp (by rw [hs]; decide))
  have hfr : s.frac = .holding s.frac.value := eq_holding_of_holds (h.live .frac (by rw [hs]; decide))
  have hx := h.operand (by rw [hs]; decide)
  rw [hs] at hi
  obtain rfl : Instr.norm = i := Option.some.inj hi
  exact sig_of_exec_norm (hbexp ▸ hb) (hfrac ▸ hfr) hx ht

theorem index_of_micro (hc : 9 ≤ t.step.toNat ∧ t.step.toNat ≤ 49) (h11 : t.step ≠ 11)
    (h12 : t.step ≠ 12) : t.k.value.toNat ≤ 90 := by
  rw [hstep] at hc h11 h12
  obtain hs | hs | ⟨hge, hle, hne11, hne12, hkeep⟩ :=
    index_predecessors (pathOf s.x.value) s.step hlo hhi hc.1 hc.2 h11 h12
  · have hsig := h.live .sig (by rw [hs]; decide)
    have he0 := h.live .e0 (by rw [hs]; decide)
    have hnorm := h.significand hs
    rw [hs] at hi
    obtain rfl : Instr.index = i := Option.some.inj hi
    exact k_of_exec_index hsig he0 hnorm ht
  · have hx := h.live .x (by rw [hs]; decide)
    rw [hs] at hi
    obtain rfl : Instr.znear = i := Option.some.inj hi
    rw [k_of_exec_znear hx ht]
    decide
  · have hk : t.k = s.k := hf.kept .k (hkeep i hi)
    rw [hk]
    exact h.index ⟨hge, hle⟩ hne11 hne12

theorem inv_of_micro : t.Inv where
  code := by rw [hstep]; exact next_le _ _ hhi
  live r hr := by
    rw [hstep] at hr
    exact hf.holdsReg ((live_of_live_next _ _ hlo hhi i hi r hr).imp_left (h.live r))
  fields := fields_of_micro h hi hlo hhi ht hf hstep
  operand := operand_of_micro h hlo hhi hf hstep
  significand := significand_of_micro h hi hlo hhi ht hf hstep
  index := index_of_micro h hi hlo hhi ht hf hstep

end

theorem exists_decodeUop {c : StepCode} (h : c.toNat ≤ 55) : ∃ i, decodeUop c = some i :=
  Option.ne_none_iff_exists'.mp (mt (decodeUop_eq_none_iff c).mp (by omega))

/-- From every state with the invariant inside an operation the micro-operation of `STEP` completes, keeps the
invariant and goes where the operand's class sends it. -/
theorem exists_exec_next {s : State} (h : s.Inv) (hlo : 1 ≤ s.step.toNat) (hhi : s.step.toNat ≤ 54) :
    ∃ i t, decodeUop s.step = some i ∧ exec i s = .next t ∧ t.Inv ∧
      t.step = (pathOf s.x.value).next s.step ∧ SameOperation s t := by
  obtain ⟨i, hi⟩ := exists_decodeUop h.code
  have hcode := encode_of_decodeUop hi
  have hidle : i ≠ .idle := by
    rintro rfl
    rw [code_eq_of_decodeUop hi rfl] at hlo
    exact absurd hlo (by decide)
  have h55 : s.step ≠ 55 := fun h55 => by
    rw [h55] at hhi
    exact absurd hhi (by decide)
  have hperf := performs_exec s hcode hidle
  obtain ⟨t, ht⟩ := hperf.completes (h.reads hi) (h.defined hi)
  obtain ⟨hframe, hstep⟩ := hperf.of_next t ht
  have hnext := (hstep rfl).trans (h.successor_eq h55)
  exact ⟨i, t, hi, ht, inv_of_micro h hi hlo hhi ht hframe hnext, hnext,
    hframe.kept .x (x_not_mem_writesOf i), hframe.params, hframe.inputs, hframe.edges⟩

end Sys2Proof.Machine
end

section
/-! PROOFS. The operation as the run of its micro-operations (R77, R247): the six instruction sequences, the
transaction as one of them, and the edges that run it. -/

namespace Sys2Proof.Machine

/-! The instruction sequence of each class -/

/-- Codes 15 to 54 (R77). -/
def seriesInstrs : List Instr :=
  [.sqr, .pinit, .pmul14, .padd14, .pmul13, .padd13, .pmul12, .padd12, .pmul11, .padd11, .pmul10, .padd10,
   .pmul9, .padd9, .pmul8, .padd8, .pmul7, .padd7, .pmul6, .padd6, .pmul5, .padd5, .pmul4, .padd4,
   .pmul3, .padd3, .qmul, .ser, .hw, .acc1, .ecvt, .eb, .acc2, .acc3, .lut, .acc4, .tm1, .acc5, .ea, .acc6]

/-- From `BAND`'s successor to `DONE`. -/
def Path.instrsAfterBand : Path → List Instr
  | .one => [.spcOne]
  | .near1 => .znear :: seriesInstrs
  | _ => .zsub :: .zdiv :: seriesInstrs

/-- From `CLASSIFY`'s successor to `DONE`. -/
def Path.instrsAfterClassify : Path → List Instr
  | .zero => [.spcZero]
  | .neg => [.spcNeg1, .spcNeg2]
  | .special => [.spcInfnan]
  | p => [.norm, .index, .tbuild, .band] ++ p.instrsAfterBand

/-- The micro-operations between `IDLE` and `DONE` (R77). -/
def Path.instrs (p : Path) : List Instr := [.decomp, .classify] ++ p.instrsAfterClassify

/-- The instructions are those of the codes from `c` on in an operation of the class, before `DONE`. -/
def Path.along (p : Path) : StepCode → List Instr → Bool
  | _, [] => true
  | c, i :: is => decodeUop c == some i && decide (1 ≤ c.toNat ∧ c.toNat ≤ 54) && p.along (p.next c) is

theorem along_cons {p : Path} {c : StepCode} {i : Instr} {is : List Instr} :
    p.along c (i :: is) = true ↔
      decodeUop c = some i ∧ 1 ≤ c.toNat ∧ c.toNat ≤ 54 ∧ p.along (p.next c) is = true := by
  simp [Path.along, and_assoc]

theorem instrs_along (p : Path) : p.along 1 p.instrs = true := by cases p <;> decide

theorem along_take (p : Path) {is : List Instr} {c : StepCode} (h : p.along c is = true) (n : ℕ) :
    p.along c (is.take n) = true := by
  induction is generalizing c n with
  | nil => simp [Path.along]
  | cons i is ih =>
    cases n with
    | zero => rfl
    | succ n =>
      obtain ⟨hi, hlo, hhi, his⟩ := along_cons.mp h
      exact along_cons.mpr ⟨hi, hlo, hhi, ih his n⟩

theorem length_instrs (p : Path) : p.instrs.length = p.steps := by cases p <;> rfl

theorem next_iterate_steps (p : Path) : p.next^[p.steps] 1 = 55 := by
  cases p <;> decide +kernel

theorem length_codes (p : Path) : p.codes.length = p.steps + 2 := by cases p <;> rfl

theorem getElem?_codes_succ (p : Path) : ∀ n < p.steps + 1, p.codes[n + 1]? = some (p.next^[n] 1).toNat := by
  cases p <;> decide +kernel

theorem getElem?_codes_zero (p : Path) : p.codes[0]? = some 0 := by cases p <;> rfl

/-! A sequence of micro-operations -/

theorem runList_append_of_next {fs gs : List (State → Result)} {s t : State} (h : runList fs s = .next t) :
    runList (fs ++ gs) s = runList gs t := by
  rw [runList_append, h, andThen_of_next]

theorem runList_cons_of_next {f : State → Result} {fs : List (State → Result)} {s t : State}
    (h : f s = .next t) : runList (f :: fs) s = runList fs t := by
  rw [runList, h, andThen_of_next]

theorem runList_singleton (f : State → Result) (s : State) : runList [f] s = f s := by
  rw [runList]
  cases f s <;> rfl

/-- From a state with the invariant the instructions of its codes complete and keep the invariant. -/
theorem runList_of_along {p : Path} {is : List Instr} {s : State} (h : s.Inv) (hp : pathOf s.x.value = p)
    (ha : p.along s.step is = true) : ∃ t, runList (is.map exec) s = .next t ∧ t.Inv ∧
      t.step = p.next^[is.length] s.step ∧ SameOperation s t := by
  induction is generalizing s with
  | nil => exact ⟨s, rfl, h, rfl, .refl s⟩
  | cons i is ih =>
    obtain ⟨hi, hlo, hhi, his⟩ := along_cons.mp ha
    obtain ⟨j, t, hj, hexec, ht, hstep, hsame⟩ := exists_exec_next h hlo hhi
    obtain rfl : i = j := Option.some.inj (hi.symm.trans hj)
    rw [hp] at hstep
    obtain ⟨u, hrun, hu, hustep, hsame'⟩ := ih ht (by rw [hsame.x, hp]) (by rwa [hstep])
    refine ⟨u, ?_, hu, ?_, hsame.trans hsame'⟩
    · rw [List.map_cons, runList_cons_of_next hexec, hrun]
    · rw [hustep, hstep, List.length_cons, Function.iterate_succ_apply]

theorem inv_accept (s : State) (x : XF) : (s.accept x).Inv where
  code := by simp
  live r hr := by
    rw [show (s.accept x).step = 1 from rfl, show liveAt 1 = [.x] from rfl, List.mem_singleton] at hr
    subst hr
    rfl
  fields hc := by simp at hc
  operand hc := by simp at hc
  significand hc := by simp at hc
  index hc := by simp at hc

/-- Any number of micro-operations after the accepting edge. -/
theorem runList_take_accept (s : State) (x : XF) {n : ℕ} (hn : n ≤ (pathOf x).steps) :
    ∃ t, runList (((pathOf x).instrs.take n).map exec) (s.accept x) = .next t ∧ t.Inv ∧
      t.step = (pathOf x).next^[n] 1 ∧ SameOperation (s.accept x) t := by
  obtain ⟨t, hrun, ht, hstep, hsame⟩ := runList_of_along (inv_accept s x) rfl
    (along_take _ (instrs_along (pathOf x)) n)
  rw [List.length_take_of_le (by rwa [length_instrs])] at hstep
  exact ⟨t, hrun, ht, hstep, hsame⟩

/-- The whole operation ends at `DONE`. -/
theorem runList_accept (s : State) (x : XF) :
    ∃ t, runList ((pathOf x).instrs.map exec) (s.accept x) = .next t ∧ t.Inv ∧ t.step = 55 ∧
      SameOperation (s.accept x) t := by
  obtain ⟨t, hrun, ht, hstep, hsame⟩ := runList_take_accept s x le_rfl
  rw [← length_instrs, List.take_length] at hrun
  exact ⟨t, hrun, ht, hstep.trans (next_iterate_steps _), hsame⟩

/-! The transaction -/

theorem afterBand_eq {p : Path} {u : State} (hstep : u.step = p.next 10) :
    afterBand u = runList (p.instrsAfterBand.map exec) u := by
  rw [afterBand, hstep]
  cases p
  case one => exact (runList_singleton execSpcOne u).symm
  all_goals rfl

theorem afterClassify_eq {p : Path} {u : State} (h : u.Inv) (hp : pathOf u.x.value = p)
    (hstep : u.step = p.next 2) : afterClassify u = runList (p.instrsAfterClassify.map exec) u := by
  have hgeneral (h7 : u.step = 7) (ha : p.along 7 [.norm, .index, .tbuild, .band] = true)
      (h10 : p.next^[4] 7 = p.next 10) :
      runList [execNorm, execIndex, execTbuild, execBand, afterBand] u =
        runList (([Instr.norm, .index, .tbuild, .band] ++ p.instrsAfterBand).map exec) u := by
    obtain ⟨t, hrun, -, ht, -⟩ := runList_of_along h hp (by rwa [h7])
    rw [List.map_append, runList_append_of_next hrun, ← afterBand_eq (by rw [ht, h7]; exact h10),
      ← runList_singleton afterBand]
    exact runList_append_of_next hrun
  rw [afterClassify, hstep]
  cases p
  case zero => exact (runList_singleton execSpcZero u).symm
  case neg => rfl
  case special => exact (runList_singleton execSpcInfnan u).symm
  case one | near1 | gen => exact hgeneral hstep (by decide) (by decide)

/-- The transaction is the run of the micro-operations of the operand's class (R247). -/
theorem transact_eq_runList {s : State} (h0 : s.step = 0) (x : XF) :
    transact x s = runList ((pathOf x).instrs.map exec) (s.accept x) := by
  obtain ⟨t, hrun, ht, hstep, hsame⟩ := runList_of_along (is := [.decomp, .classify]) (inv_accept s x) rfl
    (p := pathOf x) (along_take _ (instrs_along _) 2)
  have hx : t.x.value = x := by rw [hsame.x]; rfl
  have h2 : t.step = (pathOf x).next 2 := hstep
  rw [transact_idle h0, Path.instrs, List.map_append, runList_append_of_next hrun,
    ← afterClassify_eq ht (by rw [hx]) h2, ← runList_singleton afterClassify]
  exact runList_append_of_next hrun

/-- On the idle block every transaction ends with the response offered (R246, R247). -/
theorem exists_transact {s : State} (h0 : s.step = 0) (x : XF) :
    ∃ t, transact x s = .next t ∧ t.Inv ∧ t.step = 55 ∧ SameOperation (s.accept x) t := by
  rw [transact_eq_runList h0]
  exact runList_accept s x

end Sys2Proof.Machine
end

section
/-! PROOFS. Safety of every run (R31, R190), the requests answered (R247), and the operation as the run of its
edges whatever the host drives (R77, R284). -/

namespace Sys2Proof.Machine

/-! Request rows -/

theorem exec_of_encode_req {i : Instr} {x : XF} (h : encode i = .req x) (s : State) :
    exec i s = transact x s := by
  cases i <;> cases h <;> rfl

theorem y_holds_of_inv {t : State} (h : t.Inv) (h55 : t.step = 55) : t.y.holds = true :=
  h.live .y (by rw [h55]; decide)

theorem rspFlags_of_step {t : State} (h55 : t.step = 55) : t.rspFlags = t.facc := by
  rw [State.rspFlags, State.rspValid, h55]
  rfl

/-- Settles O54: the run of the class's micro-operations completes from the accepting edge, and the invariant
holds `Y` at `DONE`. -/
theorem everyRequestIsAnswered : Obligations.EveryRequestIsAnswered := by
  intro i x henc s
  rw [exec_of_encode_req henc, exec_of_encode_req (i := .ln x) rfl]
  refine ⟨fun h0 => ?_, transact_busy, rfl⟩
  obtain ⟨t, ht, hinv, h55, hx, hparams, hinputs, hedges⟩ := exists_transact h0 x
  exact ⟨t, ht, h55, by rw [State.rspValid, h55]; rfl, hx, y_holds_of_inv hinv h55, hparams, hinputs, hedges⟩

/-! The parameters -/

theorem params_of_exec {i : Instr} {s t : State} (h : exec i s = .next t) : t.params = s.params := by
  cases henc : encode i with
  | req x =>
    rw [exec_of_encode_req henc] at h
    by_cases h0 : s.step = 0
    · obtain ⟨u, hu, -, -, -, hparams, -, -⟩ := exists_transact h0 x
      obtain rfl : u = t := Host.Outcome.next.inj (hu.symm.trans h)
      exact hparams
    · obtain rfl : s = t := Host.Outcome.next.inj ((transact_busy h0).symm.trans h)
      rfl
  | uop c =>
    by_cases hidle : i = .idle
    · subst hidle
      cases hreq : s.pins.reqValid with
      | true => rw [exec_idle_of_reqValid hreq, Host.Outcome.next.injEq] at h; subst h; rfl
      | false => rw [exec_idle_of_not_reqValid hreq, Host.Outcome.next.injEq] at h; subst h; rfl
    · exact (frame_of_exec_next henc hidle h).params

/-- Settles O13: no transfer has the parameters in what it writes. -/
theorem parametersNeverChange : Obligations.ParametersNeverChange := by
  intro s t h
  obtain ⟨-, rfl⟩ | ⟨-, i, u, -, hexec, rfl⟩ := step_next.mp h
  · rfl
  · exact (params_of_exec hexec : u.params = s.params)

/-! The invariant along every step -/

theorem inv_of_step_zero {s : State} (h : s.step = 0) : s.Inv where
  code := by rw [h]; decide
  live r hr := by rw [h] at hr; exact absurd hr (by simp [liveAt])
  fields hc := by simp [h] at hc
  operand hc := by simp [h] at hc
  significand hc := by simp [h] at hc
  index hc := by simp [h] at hc

theorem inv_advanceFrom {t : State} (h : t.Inv) (s : State) : (t.advanceFrom s).Inv where
  code := h.code
  live r hr := by
    rw [show (t.advanceFrom s).holdsReg r = t.holdsReg r by cases r <;> rfl]
    exact h.live r hr
  fields := h.fields
  operand := h.operand
  significand := h.significand
  index := h.index

theorem exec_idle_inv (s : State) : ∃ t, exec .idle s = .next t ∧ t.Inv := by
  cases h : s.pins.reqValid with
  | true => exact ⟨_, exec_idle_of_reqValid h, inv_accept _ _⟩
  | false => exact ⟨_, exec_idle_of_not_reqValid h, inv_of_step_zero rfl⟩

theorem exec_done_inv {s : State} (h : s.Inv) (h55 : s.step = 55) : ∃ t, exec .done s = .next t ∧ t.Inv := by
  refine ⟨_, exec_done (y_holds_of_inv h h55), ?_⟩
  split
  · exact inv_of_step_zero rfl
  · rwa [show s.goto 55 = s by rw [← h55]; rfl]

/-- What `STEP` decodes to completes and keeps the invariant. -/
theorem exec_uop_inv {s : State} (h : s.Inv) :
    ∃ i t, decodeUop s.step = some i ∧ exec i s = .next t ∧ t.Inv := by
  by_cases h0 : s.step = 0
  · obtain ⟨t, ht, hinv⟩ := exec_idle_inv s
    exact ⟨.idle, t, by rw [h0]; rfl, ht, hinv⟩
  by_cases h55 : s.step = 55
  · obtain ⟨t, ht, hinv⟩ := exec_done_inv h h55
    exact ⟨.done, t, by rw [h55]; rfl, ht, hinv⟩
  have hlo : s.step.toNat ≠ 0 := fun h' => h0 (BitVec.eq_of_toNat_eq h')
  have hhi : s.step.toNat ≠ 55 := fun h' => h55 (BitVec.eq_of_toNat_eq h')
  have hcode := h.code
  obtain ⟨i, t, hi, ht, hinv, -⟩ := exists_exec_next h (by omega) (by omega)
  exact ⟨i, t, hi, ht, hinv⟩

/-- What a step fetches completes and keeps the invariant. -/
theorem exec_fetch_inv {s : State} (h : s.Inv) : ∃ i t, s.fetch = .ok i ∧ exec i s = .next t ∧ t.Inv := by
  cases hline : s.acceptedLine with
  | some x =>
    have h0 : s.step = 0 := by
      unfold State.acceptedLine at hline
      split at hline
      · exact (Option.ite_none_right_eq_some.mp hline).1
      · exact nomatch hline
    obtain ⟨t, ht, hinv, -⟩ := exists_transact h0 x
    refine ⟨decodeRequest x, t, by rw [State.fetch, hline]; rfl, ?_, hinv⟩
    rw [exec_of_encode_req (encode_decodeRequest x).2, ht]
  | none =>
    obtain ⟨i, t, hi, ht, hinv⟩ := exec_uop_inv h
    exact ⟨i, t, by rw [State.fetch, hline]; exact decode_uop_eq_ok_iff.mpr hi, ht, hinv⟩

/-- Settles O11: at a reset edge the block is empty; otherwise the fetched instruction completes and keeps the
invariant, and the host's side is no part of it. -/
theorem everySoundStateStepsToASoundState : Obligations.EverySoundStateStepsToASoundState := by
  intro s h
  cases hrst : s.pins.rst with
  | true => exact ⟨_, step_of_rst hrst, inv_of_step_zero rfl⟩
  | false =>
    obtain ⟨i, t, hfetch, ht, hinv⟩ := exec_fetch_inv h
    refine ⟨t.advanceFrom s, ?_, inv_advanceFrom hinv s⟩
    rw [step_of_fetch hrst hfetch, advance, ht, andThen_of_next]

/-- Settles O10: at reset no code that the invariant speaks of is in `STEP`. -/
theorem resetIsSound : Obligations.ResetIsSound := fun _ => inv_of_step_zero rfl

theorem inv_of_reachable {s : State} (h : Reachable s) : s.Inv := by
  induction h with
  | reset inputs => exact resetIsSound inputs
  | @step s t _ hstep ih =>
    obtain ⟨u, hu, hinv⟩ := everySoundStateStepsToASoundState s ih
    obtain rfl : u = t := Host.Outcome.next.inj (hu.symm.trans hstep)
    exact hinv

theorem transact_ne_fault (x : XF) (s : State) (f : Fault) : transact x s ≠ .fault f := by
  by_cases h0 : s.step = 0
  · obtain ⟨t, ht, -⟩ := exists_transact h0 x
    rw [ht]
    nofun
  · rw [transact_busy h0]
    nofun

theorem readsOf_of_encode_req {i : Instr} {x : XF} (h : encode i = .req x) : readsOf i = [] := by
  cases i <;> cases h <;> rfl

/-- Settles O12: each micro-operation faults exactly on its unheld reads, a request row never, and the
invariant of every reachable state holds what is read. -/
theorem unheldReadsFaultAndNeverHappen : Obligations.UnheldReadsFaultAndNeverHappen := by
  refine ⟨fun i s r hr hunheld => ?_, fun i s hheld f => ?_, fun s hs => ?_⟩
  · cases henc : encode i with
    | req x => rw [readsOf_of_encode_req henc] at hr; exact nomatch hr
    | uop c =>
      have hidle : i ≠ .idle := by rintro rfl; exact nomatch hr
      exact (performs_exec s henc hidle).fault_of_unheld r hr hunheld
  · cases henc : encode i with
    | req x => rw [exec_of_encode_req henc]; exact transact_ne_fault x s f
    | uop c =>
      by_cases hidle : i = .idle
      · obtain ⟨t, ht, -⟩ := exec_idle_inv s
        rw [hidle, ht]
        nofun
      · exact (performs_exec s henc hidle).ne_fault hheld f
  · obtain ⟨t, ht, -⟩ := everySoundStateStepsToASoundState s (inv_of_reachable hs)
    exact ⟨t, ht⟩

/-! The edges of an operation -/

theorem run_succ_of_step {s t : State} (h : step s = .next t) (n : ℕ) :
    Sys2Proof.core.run (n + 1) s = Sys2Proof.core.run n t := by
  have hcore : Sys2Proof.core.step s = .next t := h
  simp only [Host.Core.run, hcore]

theorem micro_of_along {p : Path} {c : StepCode} {is : List Instr} (h : p.along c is = true) :
    ∀ i ∈ is, (∃ d, encode i = .uop d) ∧ i ≠ .idle ∧ i ≠ .done := by
  induction is generalizing c with
  | nil => nofun
  | cons i is ih =>
    obtain ⟨hi, hlo, hhi, his⟩ := along_cons.mp h
    have hcode := encode_of_decodeUop hi
    refine List.forall_mem_cons.mpr ⟨⟨⟨c, hcode⟩, ?_, ?_⟩, ih his⟩
    · rintro rfl
      rw [code_eq_of_decodeUop hi rfl] at hlo
      exact absurd hlo (by decide)
    · rintro rfl
      rw [code_eq_of_decodeUop hi rfl] at hhi
      exact absurd hhi (by decide)

/-- A run of edges without reset takes the micro-operations of the codes, whatever else the host drives. -/
theorem run_of_along {p : Path} {is : List Instr} {s : State} (h : s.Inv) (hp : pathOf s.x.value = p)
    (ha : p.along s.step is = true) {es : List PortIn} (hes : ∀ q ∈ es, q.rst = false)
    (hlen : is.length ≤ es.length) (later : List HostInput) (n : ℕ) :
    Sys2Proof.core.run is.length (s.withHost (es.map .edge ++ later) n) =
      Outcome.withHost (runList (is.map exec) s) ((es.drop is.length).map .edge ++ later) (n + is.length) := by
  induction is generalizing s es n with
  | nil => rfl
  | cons i is ih =>
    obtain ⟨e, es, rfl⟩ := List.exists_cons_of_length_pos (hlen.trans_lt' (Nat.succ_pos _))
    obtain ⟨⟨d, -⟩, hidle, hdone⟩ := micro_of_along ha i List.mem_cons_self
    obtain ⟨hi, hlo, hhi, his⟩ := along_cons.mp ha
    obtain ⟨j, t, hj, hexec, ht, hstep, hsame⟩ := exists_exec_next h hlo hhi
    obtain rfl : i = j := Option.some.inj (hi.symm.trans hj)
    obtain ⟨he, hes'⟩ := List.forall_mem_cons.mp hes
    have hedge := step_of_edge hi hidle hdone he (es.map .edge ++ later) n
    rw [hexec] at hedge
    rw [hp] at hstep
    rw [List.length_cons, List.map_cons, List.cons_append, run_succ_of_step hedge, List.map_cons,
      runList_cons_of_next hexec, List.drop_succ_cons,
      ih ht (by rw [hsame.x, hp]) (by rwa [hstep]) hes' (Nat.le_of_succ_le_succ hlen), Nat.add_right_comm]
    rfl

/-- The accepting edge. -/
theorem step_accept {s : State} (h0 : s.step = 0) {p : PortIn} (hrst : p.rst = false)
    (hreq : p.reqValid = true) (later : List HostInput) :
    step (s.withHost (.edge p :: later) s.edges) =
      .next ((s.accept p.reqX).withHost later (s.edges + 1)) := by
  have hf : (s.withHost (.edge p :: later) s.edges).fetch = .ok .idle := by
    rw [fetch_of_edge (p := p) rfl]
    exact decode_uop_eq_ok_iff.mpr ((congrArg decodeUop h0).trans rfl)
  rw [step_of_fetch (s := s.withHost (.edge p :: later) s.edges) hrst hf,
    exec_idle_of_reqValid (s := s.withHost (.edge p :: later) s.edges) hreq]
  rfl

/-- The run of an operation for any number of its micro-operations. -/
theorem run_operation {s : State} (h0 : s.step = 0) {p : PortIn} (hrst : p.rst = false)
    (hreq : p.reqValid = true) {es : List PortIn} (hes : ∀ q ∈ es, q.rst = false) {n : ℕ}
    (hlen : es.length = (pathOf p.reqX).steps) (hn : n ≤ (pathOf p.reqX).steps) (later : List HostInput) :
    Sys2Proof.core.run (n + 1) (s.withHost (.edge p :: (es.map .edge ++ later)) s.edges) =
      Outcome.withHost (runList (((pathOf p.reqX).instrs.take n).map exec) (s.accept p.reqX))
        ((es.drop n).map .edge ++ later) (s.edges + 1 + n) := by
  have hlength : ((pathOf p.reqX).instrs.take n).length = n :=
    List.length_take_of_le (by rwa [length_instrs])
  have hrun := run_of_along (inv_accept s p.reqX) rfl (along_take _ (instrs_along (pathOf p.reqX)) n) hes
    (by rw [hlength, hlen]; exact hn) later (s.edges + 1)
  rw [hlength] at hrun
  rw [run_succ_of_step (step_accept h0 hrst hreq _), hrun]

/-- Settles O56: after the accepting edge the codes are those the class's successor relation iterates to. -/
theorem sixPathsOfTheSequencer : Obligations.SixPathsOfTheSequencer := by
  intro s p es later h0 hrst hreq hes hlen n hn
  rw [length_codes] at hn
  cases n with
  | zero => exact ⟨_, rfl, by rw [getElem?_codes_zero, h0]; rfl⟩
  | succ n =>
    obtain ⟨t, hrun, -, hstep, -⟩ := runList_take_accept s p.reqX (n := n) (by omega)
    refine ⟨_, (run_operation h0 hrst hreq hes hlen (by omega) later).trans (by rw [hrun]; rfl), ?_⟩
    rw [getElem?_codes_succ _ n (by omega), ← hstep]
    rfl

/-- Settles O57: the transaction is the same list of micro-operations that the edges run. -/
theorem transactionIsTheRunOfItsEdges : Obligations.TransactionIsTheRunOfItsEdges := by
  intro s p es later h0 hrst hreq hes hlen
  obtain ⟨t, hrun, -, -, -⟩ := runList_accept s p.reqX
  refine ⟨t, (exec_of_encode_req rfl s).trans ((transact_eq_runList h0 _).trans hrun), ?_⟩
  have hedges := run_operation h0 hrst hreq hes hlen le_rfl later
  rw [← length_instrs, List.take_length, hrun, length_instrs, ← hlen, List.drop_length, Nat.add_right_comm]
    at hedges
  rw [← hlen]
  exact hedges

/-! Two idle blocks -/

theorem runList_withHost {is : List Instr}
    (h : ∀ i ∈ is, (∃ d, encode i = .uop d) ∧ i ≠ .idle ∧ i ≠ .done) (s : State) (inputs : List HostInput)
    (n : ℕ) : runList (is.map exec) (s.withHost inputs n) =
      Outcome.withHost (runList (is.map exec) s) inputs n := by
  induction is generalizing s with
  | nil => rfl
  | cons i is ih =>
    obtain ⟨⟨⟨d, hd⟩, hidle, hdone⟩, his⟩ := List.forall_mem_cons.mp h
    rw [List.map_cons, runList, runList, exec_withHost hd hidle hdone]
    cases exec i s with
    | next t => exact ih his t
    | fault f => rfl
    | refused q => rfl

theorem accept_eq_withHost {s q : State} (h : s.params = q.params) (x : XF) :
    q.accept x = (s.accept x).withHost q.inputs q.edges := by
  unfold State.withHost State.accept State.discard State.writeX State.goto
  rw [h]

/-- Settles O58: after the accepting edge the two blocks differ in the host's side alone, and no
micro-operation of the run looks at it. -/
theorem responseDependsOnOperandAlone : Obligations.ResponseDependsOnOperandAlone := by
  intro x s q hs hq hparams
  obtain ⟨t, hrun, hinv, h55, -⟩ := runList_accept s x
  have hexec {r : State} (h0 : r.step = 0) :
      exec (.ln x) r = runList ((pathOf x).instrs.map exec) (r.accept x) :=
    (exec_of_encode_req rfl r).trans (transact_eq_runList h0 x)
  have hy := y_holds_of_inv hinv h55
  refine ⟨t, t.withHost q.inputs q.edges, (hexec hs).trans hrun, ?_, rfl, ?_, ?_⟩
  · rw [hexec hq, accept_eq_withHost hparams, runList_withHost (micro_of_along (instrs_along _)), hrun]
    rfl
  · rw [State.rspY_of_held h55 hy, State.rspY_of_held (s := t.withHost q.inputs q.edges) h55 hy]
    rfl
  · rw [rspFlags_of_step h55, rspFlags_of_step (t := t.withHost q.inputs q.edges) h55]
    rfl

end Sys2Proof.Machine
end

section
/-! PROOFS. The OPEN parameters (R8, R56, R103): the allowed words as conditions on their fields, and the maps
that bring a raw word into the allowed range. -/

namespace Sys2Proof

namespace Machine

/-! `COEF` -/

/-- The word of 1/16, the least magnitude R56 allows. -/
def coefMinWord : XF := XF.pack 0 0x3FFB 0

theorem val_coefMinWord : FP.val coefMinWord = 1 / 16 := by decide +kernel

theorem zero_lt_val_iff_sign {c : XF} (h : c.mag.toNat ≠ 0) : 0 < FP.val c ↔ c.sign = 0 := by
  rw [FP.zero_lt_val_iff]
  obtain hs | hs := BitVec.eq_zero_or_eq_one c.sign
  · rw [FP.orderKey_of_sign_zero hs, hs]
    simp
    omega
  · rw [FP.orderKey_of_sign_one hs, hs]
    simp

theorem val_lt_zero_iff_sign {c : XF} (h : c.mag.toNat ≠ 0) : FP.val c < 0 ↔ c.sign = 1 := by
  have hne : FP.val c ≠ 0 := fun h0 => h ((FP.abs_val_le_zero_iff c).mp (by rw [h0, abs_zero]))
  have hpos := zero_lt_val_iff_sign h
  obtain hs | hs := BitVec.eq_zero_or_eq_one c.sign
  · have := hpos.mpr hs
    rw [hs]
    simp [this.le]
  · rw [hs] at hpos ⊢
    have hle : FP.val c ≤ 0 := not_lt.mp fun hlt => absurd (hpos.mp hlt) (by decide)
    simp [lt_of_le_of_ne hle hne]

theorem isNormal_iff_mag (v : XF) :
    v.isNormal = true ↔ 2 ^ 112 ≤ v.mag.toNat ∧ v.mag.toNat < 0x7FFF * 2 ^ 112 := by
  have hmag := v.mag_eq
  have hfrac := v.frac.isLt
  have hbexp := v.bexp.isLt
  rw [XF.isNormal, Bool.and_eq_true, bne_iff_ne, bne_iff_ne, ne_eq, ne_eq, XF.bexp_eq_zero_iff,
    XF.bexp_eq_ones_iff]
  omega

/-- R56 on the fields of the word: the magnitude bits and the sign. -/
theorem coefAllowed_iff (n : ℕ) (c : XF) : coefAllowed n c ↔
    0x3FFB * 2 ^ 112 ≤ c.mag.toNat ∧ c.mag.toNat ≤ 0x3FFE * 2 ^ 112 ∧
      c.sign = if n % 2 = 1 then 0 else 1 := by
  have hlo : 1 / 16 ≤ |FP.val c| ↔ 0x3FFB * 2 ^ 112 ≤ c.mag.toNat := by
    rw [← val_coefMinWord, ← abs_of_pos (a := FP.val coefMinWord) (by rw [val_coefMinWord]; norm_num),
      FP.abs_val_le_abs_val_iff]
    rfl
  have hhi : |FP.val c| ≤ 1 / 2 ↔ c.mag.toNat ≤ 0x3FFE * 2 ^ 112 := by
    obtain ⟨-, -, hhalf, -, -, -⟩ := const_values
    rw [← hhalf, ← abs_of_pos (a := FP.val constHalf) (by rw [hhalf]; norm_num), FP.abs_val_le_abs_val_iff]
    rfl
  have hnormal := isNormal_iff_mag c
  rw [coefAllowed, hlo, hhi, hnormal]
  by_cases hmin : 0x3FFB * 2 ^ 112 ≤ c.mag.toNat
  · rw [zero_lt_val_iff_sign (by omega), val_lt_zero_iff_sign (by omega)]
    obtain hn | hn := Nat.mod_two_eq_zero_or_one n <;> simp [hn] <;> omega
  · simp only [hmin, false_and, and_false]

/-- The magnitude that `admitCoef` gives a raw word. -/
def admittedMag (raw : XF) : ℕ :=
  if Config.coefMagMin ≤ raw.toNat % 2 ^ 127 ∧ raw.toNat % 2 ^ 127 ≤ Config.coefMagMax then raw.toNat % 2 ^ 127
  else Config.coefMagMin + raw.toNat % 2 ^ 127 % (Config.coefMagMax - Config.coefMagMin + 1)

theorem admittedMag_bounds (raw : XF) :
    0x3FFB * 2 ^ 112 ≤ admittedMag raw ∧ admittedMag raw ≤ 0x3FFE * 2 ^ 112 := by
  have hmod := Nat.mod_lt (raw.toNat % 2 ^ 127) (Nat.succ_pos (Config.coefMagMax - Config.coefMagMin))
  unfold admittedMag Config.coefMagMin Config.coefMagMax at *
  split_ifs <;> omega

theorem admittedMag_of_allowed {raw : XF} (hlo : 0x3FFB * 2 ^ 112 ≤ raw.mag.toNat)
    (hhi : raw.mag.toNat ≤ 0x3FFE * 2 ^ 112) : admittedMag raw = raw.mag.toNat := by
  rw [XF.mag_toNat] at *
  exact if_pos ⟨hlo, hhi⟩

theorem toNat_admitCoef (n : ℕ) (raw : XF) : (Config.admitCoef n raw).toNat =
    if n % 2 = 1 then admittedMag raw else 2 ^ 127 + admittedMag raw := by
  obtain ⟨hlo, hhi⟩ := admittedMag_bounds raw
  change (BitVec.ofNat 128 (if n % 2 = 1 then admittedMag raw else 2 ^ 127 + admittedMag raw)).toNat = _
  rw [BitVec.toNat_ofNat, Nat.mod_eq_of_lt]
  split_ifs <;> omega

theorem coefAllowed_admitCoef (n : ℕ) (raw : XF) : coefAllowed n (Config.admitCoef n raw) := by
  obtain ⟨hlo, hhi⟩ := admittedMag_bounds raw
  rw [coefAllowed_iff, XF.mag_toNat, ← BitVec.toNat_inj, XF.sign_toNat, toNat_admitCoef]
  split_ifs
  · refine ⟨by omega, by omega, ?_⟩
    change _ = 0
    omega
  · refine ⟨by omega, by omega, ?_⟩
    change _ = 1
    omega

theorem admitCoef_of_coefAllowed {n : ℕ} {raw : XF} (h : coefAllowed n raw) :
    Config.admitCoef n raw = raw := by
  obtain ⟨hlo, hhi, hsign⟩ := (coefAllowed_iff n raw).mp h
  have hmag := raw.mag_toNat
  have hsign' := raw.sign_toNat
  have hlt := raw.isLt
  rw [hsign] at hsign'
  apply BitVec.eq_of_toNat_eq
  rw [toNat_admitCoef, admittedMag_of_allowed hlo hhi, hmag]
  split_ifs at hsign' ⊢
  · change 0 = _ at hsign'
    omega
  · change 1 = _ at hsign'
    omega

/-! `DEFAULT_NAN` -/

/-- The mask of `admitNan`: the exponent bits and the quiet bit. -/
theorem getLsbD_admitNan (raw : XF) (i : ℕ) :
    (Config.admitNan raw).getLsbD i = (raw.getLsbD i || decide (111 ≤ i ∧ i < 127)) := by
  have hmask : ∀ j < 128, (0x7FFF8000000000000000000000000000 : XF).getLsbD j =
      decide (111 ≤ j ∧ j < 127) := by decide
  rw [Config.admitNan, BitVec.getLsbD_or]
  obtain hi | hi := lt_or_ge i 128
  · rw [hmask i hi]
  · rw [BitVec.getLsbD_of_ge raw i hi, BitVec.getLsbD_of_ge _ i hi, decide_eq_false (by omega)]

theorem isQuietNaN_iff_bits (v : XF) :
    v.isQuietNaN = true ↔ ∀ i, 111 ≤ i → i < 127 → v.getLsbD i = true := by
  have hones : ∀ j < 15, (0x7FFF : BitVec 15).getLsbD j = true := by decide
  have hbexp (j : ℕ) (hj : j < 15) : v.bexp.getLsbD j = v.getLsbD (112 + j) := by simp [XF.bexp, hj]
  have hquiet : v.frac.getLsbD 111 = v.getLsbD 111 := by simp [XF.frac]
  constructor
  · intro h i hlo hhi
    simp only [XF.isQuietNaN, XF.isNaN, Bool.and_eq_true, beq_iff_eq] at h
    obtain ⟨⟨hb, -⟩, hq⟩ := h
    obtain rfl | ⟨j, rfl⟩ : i = 111 ∨ ∃ j, i = 112 + j := by
      obtain h0 | h1 := Nat.eq_or_lt_of_le hlo
      · exact .inl h0.symm
      · exact .inr (Nat.exists_eq_add_of_le h1)
    · rwa [← hquiet]
    · rw [← hbexp j (by omega), hb, hones j (by omega)]
  · intro h
    have hq : v.frac.getLsbD 111 = true := by rw [hquiet, h 111 le_rfl (by norm_num)]
    have hb : v.bexp = 0x7FFF := BitVec.eq_of_getLsbD_eq fun j hj => by
      rw [hbexp j hj, hones j hj, h _ (by omega) (by omega)]
    have hf : v.frac ≠ 0#112 := fun h0 => by simp [h0] at hq
    simpa [XF.isQuietNaN, XF.isNaN, hb, hf] using hq

theorem isQuietNaN_admitNan (raw : XF) : (Config.admitNan raw).isQuietNaN = true := by
  rw [isQuietNaN_iff_bits]
  intro i hlo hhi
  simp [getLsbD_admitNan, hlo, hhi]

theorem admitNan_of_isQuietNaN {raw : XF} (h : raw.isQuietNaN = true) : Config.admitNan raw = raw := by
  rw [isQuietNaN_iff_bits] at h
  refine BitVec.eq_of_getLsbD_eq fun i _ => ?_
  rw [getLsbD_admitNan]
  by_cases hi : 111 ≤ i ∧ i < 127
  · rw [h i hi.1 hi.2]
    rfl
  · rw [decide_eq_false hi, Bool.or_false]

/-- Settles O9: the maps land on the allowed fields and leave them alone. -/
theorem openParametersAreExactlyTheAllowed : Obligations.OpenParametersAreExactlyTheAllowed :=
  ⟨fun n _ _ raw => ⟨coefAllowed_admitCoef n raw, admitCoef_of_coefAllowed⟩,
    fun raw => ⟨isQuietNaN_admitNan raw, admitNan_of_isQuietNaN⟩, Nat.le_add_left 1 _⟩

theorem ofConfig_allowed : Params.ofConfig.Allowed := by
  refine ⟨fun i => ?_, isQuietNaN_admitNan _⟩
  fin_cases i <;> exact coefAllowed_admitCoef _ _

/-- Settles O8: the fields of the reset state, and parameters brought into the allowed range. -/
theorem resetStateIsIdleAndEmpty : Obligations.ResetStateIsIdleAndEmpty :=
  ⟨rfl, rfl, reset_holdsReg, rfl, rfl, ofConfig_allowed⟩

end Machine

end Sys2Proof
end

section
/-! PROOFS. `round` on the format's own values (R104), commuted and zero addends (R108), quotients rounded once
(R111), and the steps that use them: `ZDIV`, `SQR` and the six accumulations. -/

namespace Sys2Proof

namespace FP

theorem val_ne_zero_of_not_isZero {v : XF} (h : v.isZero = false) : val v ≠ 0 := fun h0 => by
  have hmag := (abs_val_le_zero_iff v).mp (by rw [h0, abs_zero])
  rw [(XF.isZero_iff_mag v).mpr hmag] at h
  exact nomatch h

theorem isZero_of_val_eq_zero {v : XF} (h : val v = 0) : v.isZero = true := by
  by_contra hne
  exact val_ne_zero_of_not_isZero (Bool.eq_false_iff.mpr hne) h

/-- Settles O15: the magnitude of an encoding is on the grid `round` takes for it. -/
theorem roundingARepresentableValueIsExact : Obligations.RoundingARepresentableValueIsExact :=
  fun _ hfin hzero => round_abs_val hfin (val_ne_zero_of_not_isZero hzero)

/-! Commuted operands (R108) -/

theorem eq_of_isZero {a b : XF} (ha : a.isZero = true) (hb : b.isZero = true) (hs : a.sign = b.sign) :
    a = b := by
  rw [XF.isZero_iff_mag] at ha hb
  exact XF.eq_of_sign_eq_of_mag_eq hs (BitVec.eq_of_toNat_eq (ha.trans hb.symm))

theorem eq_of_isInf {a b : XF} (ha : a.isInf = true) (hb : b.isInf = true) (hs : a.sign = b.sign) :
    a = b := by
  rw [XF.isInf_iff_mag] at ha hb
  exact XF.eq_of_sign_eq_of_mag_eq hs (BitVec.eq_of_toNat_eq (ha.trans hb.symm))

theorem isFinite_of_not_isNaN {a : XF} (hnan : a.isNaN = false) (hinf : a.isInf = false) :
    a.isFinite = true := by
  by_contra h
  obtain h' | h' := XF.isInf_or_isNaN_of_not_isFinite (Bool.eq_false_iff.mpr h)
  · rw [hinf] at h'; exact nomatch h'
  · rw [hnan] at h'; exact nomatch h'

theorem fadd_comm_of_isFinite (dn : XF) {a b : XF} (ha : a.isFinite = true) (hb : b.isFinite = true) :
    fadd dn a b = fadd dn b a := by
  rw [fadd_of_isFinite dn ha hb, fadd_of_isFinite dn hb ha, add_comm (val b)]
  split_ifs with hsum hab hba hba
  · rw [eq_of_isZero hab.1 hab.2.1 hab.2.2]
  · exact absurd ⟨hab.2.1, hab.1, hab.2.2.symm⟩ hba
  · exact absurd ⟨hba.2.1, hba.1, hba.2.2.symm⟩ hab
  · rfl
  all_goals rfl

theorem fadd_comm_of_isInf (dn : XF) {a b : XF} (ha : a.isNaN = false) (hb : b.isNaN = false)
    (hinf : a.isInf = true) : fadd dn a b = fadd dn b a := by
  cases hbinf : b.isInf with
  | false => simp [fadd, ha, hb, hinf, hbinf]
  | true =>
    obtain heq | hne := eq_or_ne a.sign b.sign
    · rw [eq_of_isInf hinf hbinf heq]
    · simp [fadd, ha, hb, hinf, hbinf, hne, hne.symm]

theorem fadd_comm (dn : XF) {a b : XF} (ha : a.isNaN = false) (hb : b.isNaN = false) :
    fadd dn a b = fadd dn b a := by
  cases hainf : a.isInf with
  | true => exact fadd_comm_of_isInf dn ha hb hainf
  | false =>
    cases hbinf : b.isInf with
    | true => exact (fadd_comm_of_isInf dn hb ha hbinf).symm
    | false => exact fadd_comm_of_isFinite dn (isFinite_of_not_isNaN ha hainf) (isFinite_of_not_isNaN hb hbinf)

/-! Zero addends -/

theorem fadd_isZero_right (dn : XF) {y a : XF} (hy : y.isFinite = true) (ha : a.isZero = true)
    (h : val y = 0 → y.sign = a.sign ∨ y = 0) : fadd dn y a = ⟨y, 0⟩ := by
  have hfa := XF.isFinite_of_isZero ha
  obtain h0 | hne := eq_or_ne (val y) 0
  · have hyz := isZero_of_val_eq_zero h0
    rw [fadd_of_isFinite dn hy hfa, h0, val_of_isZero ha, if_pos (add_zero 0)]
    split_ifs with hsame
    · rfl
    · rw [((h h0).resolve_left fun hs => hsame ⟨hyz, ha, hs⟩)]
      rfl
  · rw [fadd_comm_of_isFinite dn hy hfa, fadd_of_val_left_eq_zero dn hfa hy (val_of_isZero ha) hne]

theorem fadd_zero_right (dn : XF) {y : XF} (hy : y.isFinite = true) (hne : y ≠ XF.zero 1) :
    fadd dn y 0 = ⟨y, 0⟩ := by
  refine fadd_isZero_right dn hy (by decide) fun h0 => ?_
  obtain hs | hs := BitVec.eq_zero_or_eq_one y.sign
  · exact .inl (hs.trans (by decide))
  · exact absurd (eq_of_isZero (isZero_of_val_eq_zero h0) (by decide) (hs.trans (by decide))) hne

theorem fsub_zero_right (dn : XF) {y : XF} (hy : y.isFinite = true) : fsub dn y 0 = ⟨y, 0⟩ := by
  rw [fsub_eq_fadd_neg dn (XF.isNaN_of_isFinite hy) (by decide)]
  refine fadd_isZero_right dn hy (by decide) fun h0 => ?_
  have hyz := isZero_of_val_eq_zero h0
  obtain hs | hs := BitVec.eq_zero_or_eq_one y.sign
  · exact .inr (eq_of_isZero hyz (by decide) (hs.trans (by decide)))
  · exact .inl (hs.trans (by decide))

/-- Settles O19: the sum of R108 does not depend on the order, and a zero addend leaves the other operand on
the grid. -/
theorem addCommutesAndZeroIsNeutral : Obligations.AddCommutesAndZeroIsNeutral :=
  ⟨fun dn _ _ => fadd_comm dn, fun dn _ => fadd_zero_right dn⟩

/-! Quotients (R111) -/

theorem sign_eq_zero_of_val_pos {v : XF} (h : 0 < val v) : v.sign = 0 := by
  obtain hs | hs := BitVec.eq_zero_or_eq_one v.sign
  · exact hs
  · rw [val_of_sign_one hs] at h
    linarith [abs_nonneg (val v)]

theorem fdiv_of_isFinite (dn : XF) {a b : XF} (ha : a.isFinite = true) (hb : b.isFinite = true)
    (hne : val b ≠ 0) : fdiv dn a b = if a.isZero then ⟨XF.zero (a.sign ^^^ b.sign), 0⟩
      else round (a.sign ^^^ b.sign) |val a / val b| := by
  have hbz : b.isZero = false := Bool.eq_false_iff.mpr fun h => hne (val_of_isZero h)
  simp [fdiv, XF.isNaN_of_isFinite, XF.isInf_of_isFinite, ha, hb, hbz, Flag.none]

theorem signed_xor_abs_div (a b : XF) : signed (a.sign ^^^ b.sign) |val a / val b| = val a / val b := by
  have hinv : signed b.sign |val b|⁻¹ = (val b)⁻¹ := by
    rw [← signed_sign_abs_val b, abs_signed, abs_abs]
    obtain hs | hs := BitVec.eq_zero_or_eq_one b.sign <;> rw [hs] <;> simp [inv_neg]
  rw [abs_div, div_eq_mul_inv, ← signed_mul_signed, signed_sign_abs_val, hinv, ← div_eq_mul_inv]

/-- A quotient of finite operands that is zero or in the normal range is rounded once (R111). -/
theorem fdiv_oneRounding (dn : XF) {a b : XF} (ha : a.isFinite = true) (hb : b.isFinite = true)
    (hne : val b ≠ 0) (hmin : val a = 0 ∨ 2 ^ (-16382 : ℤ) ≤ |val a / val b|)
    (hmax : |val a / val b| ≤ 2 ^ (16383 : ℤ)) :
    OneRounding (fdiv dn a b) (a.sign ^^^ b.sign) (val a / val b) := by
  rw [fdiv_of_isFinite dn ha hb hne]
  cases hz : a.isZero with
  | true =>
    rw [if_pos rfl, val_of_isZero hz, zero_div]
    exact oneRounding_zero _
  | false =>
    rw [if_neg (by decide)]
    exact oneRounding_round (signed_xor_abs_div a b) (hmin.resolve_left (val_ne_zero_of_not_isZero hz)) hmax

end FP

namespace Machine

/-! `ZDIV` (R195) -/

/-- A difference at most 1/256 over a grid point stays within `2^-7`, and from `2^-114` on unless it is zero
(R195, R196). -/
theorem residual_bounds {d t : ℚ} (ht : 45 / 64 ≤ t) (ht' : t ≤ 45 / 32) (hd : |d| ≤ 1 / 256) :
    (2 ^ (-113 : ℤ) ≤ |d| → 2 ^ (-114 : ℤ) ≤ |d / t|) ∧ |d / t| ≤ 2 ^ (-7 : ℤ) := by
  have hpos : 0 < t := by linarith
  rw [abs_div, abs_of_pos hpos]
  refine ⟨fun hd' => ?_, ?_⟩
  · rw [le_div_iff₀ hpos]
    calc (2 : ℚ) ^ (-114 : ℤ) * t ≤ 2 ^ (-114 : ℤ) * 2 := by gcongr; linarith
      _ = 2 ^ (-113 : ℤ) := by norm_num
      _ ≤ |d| := hd'
  · rw [div_le_iff₀ hpos]
    calc |d| ≤ 1 / 256 := hd
      _ ≤ 2 ^ (-7 : ℤ) * t := by norm_num; linarith

theorem gridPoint_bounds {k : ℕ} (hk : k ≤ 90) :
    (45 / 64 : ℚ) ≤ ((k : ℚ) + 90) / 128 ∧ ((k : ℚ) + 90) / 128 ≤ 45 / 32 := by
  have hle : (k : ℚ) ≤ 90 := by exact_mod_cast hk
  have hge : (0 : ℚ) ≤ k := Nat.cast_nonneg k
  constructor <;> linarith

/-- The quotient of a difference by a grid point is rounded once and keeps its bounds (R195). -/
theorem fdiv_residual (dn : XF) {d t : XF} (hfd : d.isFinite = true) (hft : t.isFinite = true)
    (ht : 45 / 64 ≤ FP.val t) (ht' : FP.val t ≤ 45 / 32) (hd : |FP.val d| ≤ 1 / 256)
    (hd0 : FP.val d = 0 ∨ 2 ^ (-113 : ℤ) ≤ |FP.val d|) :
    FP.OneRounding (FP.fdiv dn d t) (d.sign ^^^ t.sign) (FP.val d / FP.val t) ∧
      |FP.val (FP.fdiv dn d t).value| ≤ 2 ^ (-7 : ℤ) ∧
      (2 ^ (-113 : ℤ) ≤ |FP.val d| → 2 ^ (-114 : ℤ) ≤ |FP.val (FP.fdiv dn d t).value|) := by
  obtain ⟨hlo, hhi⟩ := residual_bounds ht ht' hd
  have hround := FP.fdiv_oneRounding dn hfd hft (show FP.val t ≠ 0 by linarith)
    (hd0.imp_right fun h => (zpow_le_zpow_right₀ one_le_two (by norm_num)).trans (hlo h))
    (hhi.trans (zpow_le_zpow_right₀ one_le_two (by norm_num)))
  exact ⟨hround, hround.le_two_zpow (by norm_num) (by norm_num) hhi, fun h =>
    hround.two_zpow_le (by norm_num) (by norm_num) (hlo h)⟩

/-- Settles O33: the quotient of a non-zero difference is one rounding in the normal range, and rounding keeps
the powers of two that bound it. -/
theorem zdivRoundsTheQuotient : Obligations.ZdivRoundsTheQuotient := by
  intro s d t k hd ht hk hfd hft hgrid hd0 hdle
  obtain ⟨htlo, hthi⟩ := gridPoint_bounds hk
  rw [← hgrid] at htlo hthi
  have htpos : 0 < FP.val t := by linarith
  obtain ⟨hround, hle, hge⟩ := fdiv_residual s.params.defaultNan hfd hft htlo hthi hdle
    (hd0.imp_left fun h => by rw [h, FP.val_zeroWord])
  refine ⟨_, ?_, hround.nearest, fun h0 => ?_, fun hne => hge (hd0.resolve_left hne), hle⟩
  · rw [exec_zdiv hd ht, ← hround.flags]
    rfl
  · rw [FP.fdiv_of_isFinite _ hfd hft htpos.ne', h0, if_pos (by decide), FP.sign_eq_zero_of_val_pos htpos]
    rfl

/-! `SQR` (R211) -/

theorem square_bounds {z : ℚ} (hz : |z| ≤ 2 ^ (-7 : ℤ)) :
    (2 ^ (-114 : ℤ) ≤ |z| → 2 ^ (-228 : ℤ) ≤ |z * z|) ∧ |z * z| ≤ 2 ^ (-14 : ℤ) := by
  rw [abs_mul]
  refine ⟨fun hz' => ?_, ?_⟩
  · calc (2 : ℚ) ^ (-228 : ℤ) = 2 ^ (-114 : ℤ) * 2 ^ (-114 : ℤ) := by norm_num
      _ ≤ |z| * |z| := by gcongr
  · calc |z| * |z| ≤ 2 ^ (-7 : ℤ) * 2 ^ (-7 : ℤ) := by gcongr
      _ = 2 ^ (-14 : ℤ) := by norm_num

theorem fmul_self_oneRounding (dn : XF) {z : XF} (hfin : z.isFinite = true)
    (hz : |FP.val z| ≤ 2 ^ (-7 : ℤ)) (hz0 : FP.val z = 0 ∨ 2 ^ (-114 : ℤ) ≤ |FP.val z|) :
    FP.OneRounding (FP.fmul dn z z) 0 (FP.val z * FP.val z) := by
  obtain ⟨hlo, hhi⟩ := square_bounds hz
  have hround := FP.fmul_oneRounding dn hfin hfin
    (hz0.imp (fun h => by rw [h, mul_zero]) fun h =>
      (zpow_le_zpow_right₀ one_le_two (by norm_num)).trans (hlo h))
    (hhi.trans (zpow_le_zpow_right₀ one_le_two (by norm_num)))
  rwa [BitVec.xor_self] at hround

/-- Settles O38: the square is zero or one rounding in the normal range, of equal signs. -/
theorem sqrRoundsTheSquare : Obligations.SqrRoundsTheSquare := by
  intro s z hz hfin hle hz0
  have hround := fmul_self_oneRounding s.params.defaultNan hfin hle hz0
  refine ⟨_, ?_, hround.nearest, hround.sign⟩
  rw [exec_sqr hz, ← hround.flags]
  rfl

/-! The six accumulations (R231 to R241) -/

theorem exec_acc1 {s : State} {y a : XF} (hy : s.y = .holding y) (ha : s.tmp = .holding a) :
    exec .acc1 s = .next ((s.fpY (FP.fsub s.params.defaultNan y a)).goto 45) := by
  change execAcc1 s = _
  rw [execAcc1, readReg_of_holding hy, readReg_of_holding ha]

theorem exec_acc3 {s : State} {y z : XF} (hy : s.y = .holding y) (hz : s.z = .holding z) :
    exec .acc3 s = .next ((s.fpY (FP.fadd s.params.defaultNan y z)).goto 49) := by
  change execAcc3 s = _
  rw [execAcc3, readReg_of_holding hy, readReg_of_holding hz]

theorem addTmpToY_of_holding {s : State} {y a : XF} (hy : s.y = .holding y) (ha : s.tmp = .holding a)
    (c : StepCode) :
    addTmpToY c s = .next ((s.fpY (FP.fadd s.params.defaultNan y a)).goto c) := by
  rw [addTmpToY, readReg_of_holding hy, readReg_of_holding ha]

theorem exec_of_mem_accRows {i : Instr} {c : StepCode}
    (h : (i, c) ∈ [(Instr.acc2, (48 : StepCode)), (.acc4, 51), (.acc5, 53), (.acc6, 55)]) (s : State) :
    exec i s = addTmpToY c s := by
  fin_cases h <;> rfl

/-- A sum that is the old `Y` with no flag leaves the state but for `STEP`. -/
theorem fpY_of_eq {s : State} {y : XF} (hy : s.y = .holding y) : s.fpY ⟨y, 0⟩ = s := by
  rw [State.fpY_no_flag, State.writeY, ← hy]

/-- Settles O45: each accumulation is one primitive into `Y`, and a zero addend is neutral. -/
theorem accumulationsRoundIntoY : Obligations.AccumulationsRoundIntoY := by
  intro s y a hy
  refine ⟨fun ha => ⟨exec_acc1 hy ha, fun h0 hfin => ?_, fun i c hrow => ⟨?_, fun h0 hfin hne => ?_⟩⟩,
    fun hz => ⟨exec_acc3 hy hz, fun h0 hfin hne => ?_⟩⟩
  · rw [exec_acc1 hy ha, h0, FP.fsub_zero_right _ hfin, fpY_of_eq hy]
    rfl
  · rw [exec_of_mem_accRows hrow, addTmpToY_of_holding hy ha]
    rfl
  · rw [exec_of_mem_accRows hrow, addTmpToY_of_holding hy ha, h0, FP.fadd_zero_right _ hfin hne,
      fpY_of_eq hy]
    rfl
  · rw [exec_acc3 hy hz, h0, FP.fadd_zero_right _ hfin hne, fpY_of_eq hy]
    rfl

end Machine

end Sys2Proof
end

section
/-! PROOFS. The reduction of a positive finite operand (R142, R182, R187, R190): `NORM`, `INDEX` and `TBUILD` give
`val(X) = 2^E * u` with the grid point of index `K` within 1/256 of `u`. -/

namespace Sys2Proof.Machine

/-! The values of the two bit patterns of `TBUILD` -/

theorem val_realign (b : Bool) {sig : BitVec 113} (h : 2 ^ 112 ≤ sig.toNat) :
    FP.val (realign b sig) = (sig.toNat : ℚ) / 2 ^ (if b then 113 else 112) := by
  have hfrac : (sig.extractLsb' 0 112).toNat = sig.toNat - 2 ^ 112 := by
    have hlt := sig.isLt
    rw [BitVec.extractLsb'_toNat, Nat.shiftRight_zero]
    omega
  rw [realign, FP.val_pack, hfrac, Nat.cast_sub h, Nat.cast_pow, Nat.cast_ofNat]
  cases b
  · have hexp : (((0x3FFF : BitVec 15).toNat : ℕ) : ℤ) - 16383 = 0 := rfl
    simp only [Bool.false_eq_true, if_false]
    rw [if_neg (by decide), hexp, zpow_zero]
    exact (signed_zero_bit _).trans (by ring)
  · have hexp : (((0x3FFE : BitVec 15).toNat : ℕ) : ℤ) - 16383 = -1 := rfl
    simp only [if_true]
    rw [if_neg (by decide), hexp, zpow_neg_one]
    exact (signed_zero_bit _).trans (by ring)

/-- The grid point of tier A, `J` 128ths above 1 (R187). -/
theorem val_gridWord_tierA : ∀ j : BitVec 7, j.toNat ≤ 52 →
    FP.val (gridWord false j ++ 0#96) = ((j.toNat : ℚ) + 128) / 128 := by
  decide +kernel

/-- The grid point of tier B, `J` 128ths above 1/2, with the carry into the exponent at `J = 64` (R187). -/
theorem val_gridWord_tierB : ∀ j : BitVec 7, j.toNat ≤ 64 →
    FP.val (gridWord true j ++ 0#96) = ((j.toNat : ℚ) + 64) / 128 := by
  decide +kernel

/-! The reduced operand -/

/-- `x` is `2^e * u` exactly, with `u` in its interval and within 1/256 of the grid point `g` of index `k`
(R180, R189, R190). -/
structure Reduction (x u g : XF) (k : BitVec 7) (e : BitVec 16) : Prop where
  value : FP.val x = 2 ^ e.toInt * FP.val u
  lower : 703125 / 1000000 ≤ FP.val u
  upper : FP.val u < 140625 / 100000
  grid : FP.val g = ((k.toNat : ℚ) + 90) / 128
  index : k.toNat ≤ 90
  near_lower : -1 / 256 ≤ FP.val u - FP.val g
  near_upper : FP.val u - FP.val g < 1 / 256
  exponent_lower : -16494 ≤ e.toInt
  exponent_upper : e.toInt ≤ 16384

section
variable {x : XF} {sig : BitVec 113} {e0 e : BitVec 16} {j k : BitVec 7}
  (hval : FP.val x = 2 ^ e0.toInt * ((sig.toNat : ℚ) / 2 ^ 112)) (hsig : 2 ^ 112 ≤ sig.toNat)
  (hlo : -16494 ≤ e0.toInt) (hhi : e0.toInt ≤ 16383)
include hval hsig hlo hhi

theorem reduction_tierA (hm : sig.toNat / 2 ^ 96 < 0x16800)
    (hj : j.toNat = (sig.toNat / 2 ^ 96 - 0xFF00) / 2 ^ 9) (hk : k.toNat = j.toNat + 38) :
    Reduction x (realign false sig) (gridWord false j ++ 0#96) k e0 := by
  have hgrid := val_gridWord_tierA j (by omega)
  have hu := val_realign false hsig
  have hmin : ((2 ^ 112 : ℕ) : ℚ) ≤ sig.toNat := by exact_mod_cast hsig
  have hmax : (sig.toNat : ℚ) < (0x16800 * 2 ^ 96 : ℕ) := by
    exact_mod_cast (show sig.toNat < 0x16800 * 2 ^ 96 by omega)
  have hnear : (((j.toNat + 128) * 2 ^ 105 : ℕ) : ℚ) ≤ (sig.toNat + 2 ^ 104 : ℕ) := by
    exact_mod_cast (show (j.toNat + 128) * 2 ^ 105 ≤ sig.toNat + 2 ^ 104 by omega)
  have hnear' : (sig.toNat : ℚ) < ((j.toNat + 128) * 2 ^ 105 + 2 ^ 104 : ℕ) := by
    exact_mod_cast (show sig.toNat < (j.toNat + 128) * 2 ^ 105 + 2 ^ 104 by omega)
  push_cast at hmin hmax hnear hnear'
  simp only [Bool.false_eq_true, if_false] at hu
  refine ⟨by rw [hval, hu], ?_, ?_, ?_, by omega, ?_, ?_, hlo, by omega⟩
  · rw [hu]; linarith
  · rw [hu]; linarith
  · rw [hgrid, hk]; push_cast; ring
  · rw [hu, hgrid]; linarith
  · rw [hu, hgrid]; linarith

theorem reduction_tierB (hm : 0x16800 ≤ sig.toNat / 2 ^ 96)
    (hj : j.toNat = (sig.toNat / 2 ^ 96 - 0xFE00) / 2 ^ 10) (hk : k.toNat = j.toNat - 26)
    (he : e.toInt = e0.toInt + 1) :
    Reduction x (realign true sig) (gridWord true j ++ 0#96) k e := by
  have hlt := sig.isLt
  have hgrid := val_gridWord_tierB j (by omega)
  have hu := val_realign true hsig
  have hmin : ((0x16800 * 2 ^ 96 : ℕ) : ℚ) ≤ sig.toNat := by
    exact_mod_cast (show 0x16800 * 2 ^ 96 ≤ sig.toNat by omega)
  have hmax : (sig.toNat : ℚ) < (2 ^ 113 : ℕ) := by exact_mod_cast hlt
  have hnear : (((j.toNat + 64) * 2 ^ 106 : ℕ) : ℚ) ≤ (sig.toNat + 2 ^ 105 : ℕ) := by
    exact_mod_cast (show (j.toNat + 64) * 2 ^ 106 ≤ sig.toNat + 2 ^ 105 by omega)
  have hnear' : (sig.toNat : ℚ) < ((j.toNat + 64) * 2 ^ 106 + 2 ^ 105 : ℕ) := by
    exact_mod_cast (show sig.toNat < (j.toNat + 64) * 2 ^ 106 + 2 ^ 105 by omega)
  have hkj : (k.toNat : ℚ) + 26 = j.toNat := by exact_mod_cast (show k.toNat + 26 = j.toNat by omega)
  push_cast at hmin hmax hnear hnear'
  simp only [if_true] at hu
  refine ⟨?_, ?_, ?_, ?_, by omega, ?_, ?_, by omega, by omega⟩
  · rw [hval, hu, he, zpow_add_one₀ two_ne_zero]; ring
  · rw [hu]; linarith
  · rw [hu]; linarith
  · rw [hgrid, ← hkj]; ring
  · rw [hu, hgrid]; linarith
  · rw [hu, hgrid]; linarith

end

/-- `NORM`, `INDEX` and `TBUILD` on a positive finite non-zero operand (R142, R182, R187). -/
theorem exists_reduction (s : State) {x : XF} (hx : posFinite x = true) (hb : s.bexp = .holding x.bexp)
    (hf : s.frac = .holding x.frac) : ∃ (t : State) (u g : XF) (k : BitVec 7) (e : BitVec 16),
      runList [execNorm, execIndex, execTbuild] s = .next t ∧ t.step = 10 ∧ t.facc = s.facc ∧
      t.x = s.x ∧ t.params = s.params ∧ t.u = .holding u ∧ t.t = .holding g ∧ t.k = .holding k ∧
      t.e = .holding e ∧ Reduction x u g k e := by
  obtain ⟨e0, sig, hnorm, -, -, hsig, hval, hlo, hhi⟩ :=
    normGivesTheNormalisedSignificand s x hx hb hf
  obtain ⟨m17, j, k, e, hindex, hm, htierA, htierB⟩ := indexChoosesTierAndGridPoint
    { s with e0 := .holding e0, sig := .holding sig, step := 8 } sig e0 rfl rfl hsig hhi
  have hrun (b : Bool) (hb : decide (0x16800 ≤ m17.toNat) = b) :=
    (runList_cons_of_next (fs := [execIndex, execTbuild]) hnorm).trans
      ((runList_cons_of_next (fs := [execTbuild]) hindex).trans
        ((runList_singleton _ _).trans (exec_tbuild (b := b) (congrArg Register.holding hb) rfl rfl)))
  rw [hm] at htierA htierB hrun
  obtain hA | hB := lt_or_ge (sig.toNat / 2 ^ 96) 0x16800
  · obtain ⟨hj, -, hk, rfl⟩ := htierA hA
    exact ⟨_, _, _, _, _, hrun false (decide_eq_false hA.not_ge), rfl, rfl, rfl, rfl, rfl, rfl, rfl, rfl,
      reduction_tierA hval hsig hlo hhi hA hj hk⟩
  · obtain ⟨hj, -, -, hk, he⟩ := htierB hB
    exact ⟨_, _, _, _, _, hrun true (decide_eq_true hB), rfl, rfl, rfl, rfl, rfl, rfl, rfl, rfl,
      reduction_tierB hval hsig hlo hhi hB hj hk he⟩

/-- Settles O29: each tier's patterns have the values of R187, and the index is the rounded significand. -/
theorem reductionReconstructsTheOperand : Obligations.ReductionReconstructsTheOperand := by
  intro s x hx hb hf
  obtain ⟨t, u, g, k, e, hrun, hstep, hfacc, htx, -, hu, hg, hk, he, hred⟩ := exists_reduction s hx hb hf
  exact ⟨t, u, g, k, e, hrun, hstep, hfacc, htx, hu, hg, hk, he, hred.value, hred.lower, hred.upper,
    hred.grid, hred.index, hred.near_lower, hred.near_upper, hred.exponent_lower, hred.exponent_upper⟩

end Sys2Proof.Machine
end

section
/-! PROOFS. The special operands bit for bit (R162 to R166, R192): the transaction from the state `CLASSIFY`
leaves, on each of the four short paths. -/

namespace Sys2Proof.Machine

/-- The state after `CLASSIFY`: the operand, its fields and its class, and nothing else (R140, R160). -/
def classified (s : State) (x : XF) : State :=
  { s.accept x with
    sgn := .holding x.sign, bexp := .holding x.bexp, frac := .holding x.frac
    cls := .holding (classOf x.sign x.bexp x.frac), step := classSuccessor (classOf x.sign x.bexp x.frac) }

theorem runList_decomp_classify (s : State) (x : XF) :
    runList ([Instr.decomp, .classify].map exec) (s.accept x) = .next (classified s x) :=
  (runList_cons_of_next (exec_decomp rfl)).trans ((runList_singleton _ _).trans (exec_classify rfl rfl rfl))

/-- The transaction from the state after `CLASSIFY`. -/
theorem transact_eq_after_classify {s : State} (h0 : s.step = 0) (x : XF) :
    transact x s = runList ((pathOf x).instrsAfterClassify.map exec) (classified s x) := by
  rw [transact_eq_runList h0, Path.instrs, List.map_append,
    runList_append_of_next (runList_decomp_classify s x)]

/-! The class of a row's word -/

theorem pathOf_lnZero (sign : BitVec 1) : pathOf (sign ++ 0#127) = .zero := by
  rw [pathOf, decodeRequest_lnZero]

theorem pathOf_lnNeg {mag : BitVec 127} (h : mag ≠ 0) : pathOf (1#1 ++ mag) = .neg := by
  rw [pathOf, decodeRequest_lnNeg h]

theorem pathOf_lnSpecial (frac : BitVec 112) : pathOf (0#1 ++ 0x7FFF#15 ++ frac) = .special := by
  rw [pathOf, decodeRequest_lnSpecial]

/-! The answers (R166) -/

theorem fdiv_zero_constZero (dn : XF) : FP.fdiv dn 0 constZero = ⟨dn, Flag.nv⟩ :=
  FP.fdiv_of_isZero dn (by decide) (by decide)

theorem fdiv_constZero_of_isQuietNaN (dn : XF) {v : XF} (h : v.isQuietNaN = true) :
    FP.fdiv dn v constZero = ⟨v, 0⟩ := by
  rw [FP.fdiv_eq_nanprop (.inl (XF.isNaN_of_isQuietNaN h)), FP.nanprop_of_isQuietNaN h (by decide)]

section
variable {s : State} (h0 : s.step = 0) {x : XF}
include h0

theorem transact_zero (hp : pathOf x = .zero) : ∃ t, transact x s = .next t ∧ t.step = 55 ∧
    t.y = .holding 0xFFFF0000000000000000000000000000 ∧ t.facc = 0b01000 := by
  rw [transact_eq_after_classify h0, hp]
  obtain ⟨hexec, -⟩ := spcZeroGivesMinusInfinity (classified s x)
  exact ⟨_, (runList_singleton _ _).trans hexec, rfl, rfl, BitVec.zero_or⟩

theorem transact_neg_of_results (hp : pathOf x = .neg) {v w : XF} {f g : FlagBits}
    (hsub : FP.fsub s.params.defaultNan x x = ⟨v, f⟩)
    (hdiv : FP.fdiv s.params.defaultNan v constZero = ⟨w, g⟩) :
    ∃ t, transact x s = .next t ∧ t.step = 55 ∧ t.y = .holding w ∧ t.facc = f ||| g := by
  have hneg1 := exec_spcNeg1 (s := classified s x) (x := x) rfl
  rw [show (classified s x).params = s.params from rfl, hsub] at hneg1
  have hneg2 := exec_spcNeg2 (s := ((classified s x).fpTmp ⟨v, f⟩).goto 5) (v := v) rfl
  rw [show (((classified s x).fpTmp ⟨v, f⟩).goto 5).params = s.params from rfl, hdiv] at hneg2
  rw [transact_eq_after_classify h0, hp]
  refine ⟨_, (runList_cons_of_next hneg1).trans ((runList_singleton _ _).trans hneg2), rfl, rfl, ?_⟩
  exact congrArg (· ||| g) BitVec.zero_or

/-- A negative operand: a NaN is quieted, everything else is invalid (R163, R164). -/
theorem transact_neg (hdn : s.params.defaultNan.isQuietNaN = true) (hp : pathOf x = .neg) :
    ∃ t, transact x s = .next t ∧ t.step = 55 ∧
      t.y = .holding (if x.isNaN then x.quiet else s.params.defaultNan) ∧
      t.facc = if x.isQuietNaN then 0 else 0b10000 := by
  have hsub := FP.fsub_self s.params.defaultNan x
  have hnot_quiet (hnan : x.isNaN = false) : x.isQuietNaN = false := by simp [XF.isQuietNaN, hnan]
  split_ifs at hsub with hfin hinf hquiet
  · have hnan := XF.isNaN_of_isFinite hfin
    rw [hnan, hnot_quiet hnan]
    exact transact_neg_of_results h0 hp hsub (fdiv_zero_constZero _)
  · have hnan := XF.isNaN_of_isInf hinf
    rw [hnan, hnot_quiet hnan]
    exact transact_neg_of_results h0 hp hsub (fdiv_constZero_of_isQuietNaN _ hdn)
  · rw [XF.isNaN_of_isQuietNaN hquiet, hquiet, if_pos rfl, if_pos rfl, XF.quiet_of_isQuietNaN hquiet]
    exact transact_neg_of_results h0 hp hsub (fdiv_constZero_of_isQuietNaN _ hquiet)
  · have hnan := (XF.isInf_or_isNaN_of_not_isFinite (Bool.eq_false_iff.mpr hfin)).resolve_left hinf
    rw [hnan, if_pos rfl, if_neg hquiet]
    exact transact_neg_of_results h0 hp hsub (fdiv_constZero_of_isQuietNaN _ (XF.isQuietNaN_quiet hnan))

/-- A positive infinity or NaN: a signalling NaN is quieted, everything else stays (R165). -/
theorem transact_special (hp : pathOf x = .special) (hfin : x.isFinite = false) :
    ∃ t, transact x s = .next t ∧ t.step = 55 ∧
      t.y = .holding (if x.isNaN then x.quiet else x) ∧
      t.facc = if x.isSignallingNaN then 0b10000 else 0 := by
  have hexec := exec_spcInfnan (s := classified s x) (x := x) rfl
  rw [FP.fadd_self_of_not_isFinite _ hfin] at hexec
  have hrun := transact_eq_after_classify h0 x
  rw [hp] at hrun
  refine ⟨_, hrun.trans ((runList_singleton _ _).trans hexec), rfl, ?_, ?_⟩
  · split_ifs with hsig hnan hnan
    · rfl
    · exact absurd (XF.isNaN_of_isSignallingNaN hsig) hnan
    · rw [XF.quiet_of_isQuietNaN ((XF.isQuietNaN_or_isSignallingNaN hnan).resolve_right hsig)]
      rfl
    · rfl
  · split_ifs with hsig
    · exact BitVec.zero_or
    · exact BitVec.zero_or

end

/-! 1.0 (R192) -/

theorem posFinite_oneWord : posFinite oneWord = true := by decide

theorem transact_one {s : State} (h0 : s.step = 0) : ∃ t, transact oneWord s = .next t ∧ t.step = 55 ∧
    t.y = .holding 0 ∧ t.facc = 0 := by
  obtain ⟨t, u, g, k, e, hrun, -, hfacc, hx, -⟩ :=
    exists_reduction (classified s oneWord) posFinite_oneWord rfl rfl
  have hband := exec_band (s := t) (x := oneWord) hx (by decide)
  rw [transact_eq_after_classify h0, show pathOf oneWord = .one by decide]
  refine ⟨_, (runList_append_of_next (fs := [execNorm, execIndex, execTbuild]) hrun).trans
    ((runList_cons_of_next hband).trans ((runList_singleton _ _).trans (exec_spcOne _))), rfl, rfl, hfacc⟩

theorem isFinite_of_special {x : XF} (hp : pathOf x = .special) : x.isFinite = false := by
  obtain ⟨-, -, hspecial, -⟩ := operandClassesByValue x
  exact (hspecial.mp hp).2

theorem eq_inf_of_special {x : XF} (hp : pathOf x = .special) (hnan : ¬ x.isNaN = true) : x = XF.inf 0 := by
  obtain ⟨-, -, hspecial, -⟩ := operandClassesByValue x
  obtain ⟨hsign, hfin⟩ := hspecial.mp hp
  exact FP.eq_of_isInf ((XF.isInf_or_isNaN_of_not_isFinite hfin).resolve_right hnan) (by decide)
    (hsign.trans (by decide))

/-- Settles O55: the transaction of each class on its row's word. -/
theorem specialOperandResults : Obligations.SpecialOperandResults := by
  intro s h0 hdn
  refine ⟨fun sign => transact_zero h0 (pathOf_lnZero sign), fun mag hmag => ?_, fun frac => ?_,
    transact_one h0⟩
  · have hp : pathOf (requestWord (.lnNeg mag)) = .neg := pathOf_lnNeg hmag
    obtain ⟨t, ht, h55, hy, hfacc⟩ := transact_neg h0 hdn hp
    refine ⟨t, ht, h55, ?_⟩
    split_ifs at hy ⊢ with hnan hquiet
    · exact ⟨hy, by rw [hfacc, if_pos hquiet]⟩
    · exact ⟨hy, by rw [hfacc, if_neg hquiet]⟩
    · exact ⟨hy, by rw [hfacc, if_neg fun hquiet => hnan (XF.isNaN_of_isQuietNaN hquiet)]⟩
  · have hp : pathOf (requestWord (.lnSpecial frac)) = .special := pathOf_lnSpecial frac
    obtain ⟨t, ht, h55, hy, hfacc⟩ := transact_special h0 hp (isFinite_of_special hp)
    refine ⟨t, ht, h55, ?_⟩
    split_ifs at hy ⊢ with hnan hquiet
    · exact ⟨hy, by rw [hfacc, if_neg (by simp [XF.isSignallingNaN_of_isQuietNaN hquiet])]⟩
    · have hsig := (XF.isQuietNaN_or_isSignallingNaN hnan).resolve_left hquiet
      exact ⟨hy, by rw [hfacc, if_pos hsig]⟩
    · refine ⟨?_, by rw [hfacc, if_neg fun hsig => hnan (XF.isNaN_of_isSignallingNaN hsig)]⟩
      rw [hy, eq_inf_of_special hp hnan]
      rfl

end Sys2Proof.Machine
end

section
/-! PROOFS. Codes 15 to 54 as primitives applied one after another (R210, R213 to R216, R230 to R242): Horner's
scheme as a fold over the coefficients, and the accumulation that follows it. -/

namespace Sys2Proof.Machine

/-! Horner's scheme (R213, R214) -/

/-- The coefficients after `COEF[15]`, high degree first. -/
def hornerDegrees : List ℕ := [14, 13, 12, 11, 10, 9, 8, 7, 6, 5, 4, 3]

/-- One multiply and one add of the scheme, with the flags raised so far. -/
def hornerStep (p : Params) (z : XF) (acc : FP.Result) (n : ℕ) : FP.Result :=
  { value := (FP.fadd p.defaultNan (FP.fmul p.defaultNan acc.value z).value (p.l n)).value
    flags := acc.flags ||| ((FP.fmul p.defaultNan acc.value z).flags |||
      (FP.fadd p.defaultNan (FP.fmul p.defaultNan acc.value z).value (p.l n)).flags) }

/-- The scheme over the coefficients `ns`, from `COEF[15]` on. -/
def horner (p : Params) (z : XF) (ns : List ℕ) : FP.Result := ns.foldl (hornerStep p z) ⟨p.l 15, 0⟩

theorem horner_value (p : Params) (z : XF) : (horner p z hornerDegrees).value = hornerValue p z :=
  (List.foldl_hom FP.Result.value (fun _ _ => rfl)).symm

theorem State.fpP_no_flag (s : State) (v : XF) : s.fpP ⟨v, 0⟩ = s.writeP v :=
  congrArg (fun t : State => t.writeP v) s.raise_zero

/-- Of two results written to `P` the second stays, and both raise their flags. -/
theorem State.fpP_goto_fpP (s : State) (r q : FP.Result) (c d : StepCode) :
    (((s.fpP r).goto c).fpP q).goto d = (s.fpP ⟨q.value, r.flags ||| q.flags⟩).goto d :=
  congrArg (fun f : FlagBits => ({ s with facc := f, p := .holding q.value, step := d } : State))
    (BitVec.or_assoc ..)

section
variable {s : State} {z : XF} (hz : s.z = .holding z)
include hz

theorem runList_hornerStep (r : FP.Result) (c : StepCode) {n : ℕ} (hmin : 3 ≤ n) (hmax : n ≤ 15) :
    runList [pmul, padd n] ((s.fpP r).goto c) =
      .next ((s.fpP (hornerStep s.params z r n)).goto (c + 1 + 1)) := by
  have hmul := pmul_of_holding (s := (s.fpP r).goto c) (p := r.value) (z := z) rfl hz
  have hadd := padd_of_holding (s := (((s.fpP r).goto c).fpP
    (FP.fmul s.params.defaultNan r.value z)).goto (c + 1)) rfl hmin hmax
  refine (runList_cons_of_next hmul).trans ((runList_singleton _ _).trans (hadd.trans ?_))
  rw [State.fpP_goto_fpP, State.fpP_goto_fpP]
  rfl

theorem runList_horner (ns : List ℕ) (hns : ∀ n ∈ ns, 3 ≤ n ∧ n ≤ 15) (r : FP.Result) (c : StepCode) :
    ∃ d, runList (ns.flatMap fun n => [pmul, padd n]) ((s.fpP r).goto c) =
      .next ((s.fpP (ns.foldl (hornerStep s.params z) r)).goto d) := by
  induction ns generalizing r c with
  | nil => exact ⟨c, rfl⟩
  | cons n ns ih =>
    obtain ⟨⟨hmin, hmax⟩, hns⟩ := List.forall_mem_cons.mp hns
    obtain ⟨d, hd⟩ := ih hns (hornerStep s.params z r n) (c + 1 + 1)
    exact ⟨d, (runList_append_of_next (runList_hornerStep hz r c hmin hmax)).trans hd⟩

/-- `PINIT` and the scheme over some of the coefficients. -/
theorem runList_pinit_horner (ns : List ℕ) (hns : ∀ n ∈ ns, 3 ≤ n ∧ n ≤ 15) :
    ∃ d, runList (execPinit :: ns.flatMap fun n => [pmul, padd n]) s =
      .next ((s.fpP (horner s.params z ns)).goto d) := by
  have hinit : execPinit s = .next ((s.fpP ⟨s.params.l 15, 0⟩).goto 17) := by
    rw [State.fpP_no_flag]
    exact exec_pinit s
  obtain ⟨d, hd⟩ := runList_horner hz ns hns ⟨s.params.l 15, 0⟩ 17
  exact ⟨d, (runList_cons_of_next hinit).trans hd⟩

end

theorem hornerDegrees_range : ∀ n ∈ hornerDegrees, 3 ≤ n ∧ n ≤ 15 := by decide

/-! The primitives of codes 15 to 54, each on the results before it (R242) -/

namespace Accumulation
variable (p : Params) (z t lg : XF) (e : BitVec 16)

/-- `W` (R211). -/
def square : FP.Result := FP.fmul p.defaultNan z z
/-- `P` after `QMUL` (R215). -/
def quotient : FP.Result := FP.fmul p.defaultNan (horner p z hornerDegrees).value z
/-- `Y` after `SER` (R216). -/
def series : FP.Result := FP.fmul p.defaultNan (quotient p z).value (square p z).value
/-- `TMP` after `HW` (R230). -/
def halfSquare : FP.Result := FP.fmul p.defaultNan constHalf (square p z).value
/-- `Y` after `ACC1` (R231). -/
def sum1 : FP.Result := FP.fsub p.defaultNan (series p z).value (halfSquare p z).value
/-- `TMP` after `EB` (R233). -/
def lowTerm : FP.Result := FP.fmul p.defaultNan (FP.i2f e) constLn2b
/-- `Y` after `ACC2` (R234). -/
def sum2 : FP.Result := FP.fadd p.defaultNan (sum1 p z).value (lowTerm p e).value
/-- `Y` after `ACC3` (R235). -/
def sum3 : FP.Result := FP.fadd p.defaultNan (sum2 p z e).value z
/-- `Y` after `ACC4` (R237). -/
def sum4 : FP.Result := FP.fadd p.defaultNan (sum3 p z e).value lg
/-- `TMP` after `TM1` (R238). -/
def gridTerm : FP.Result := FP.fsub p.defaultNan t constOne
/-- `Y` after `ACC5` (R239). -/
def sum5 : FP.Result := FP.fadd p.defaultNan (sum4 p z lg e).value (gridTerm p t).value
/-- `TMP` after `EA` (R240). -/
def highTerm : FP.Result := FP.fmul p.defaultNan (FP.i2f e) constLn2a
/-- `Y` after `ACC6` (R241). -/
def sum6 : FP.Result := FP.fadd p.defaultNan (sum5 p z t lg e).value (highTerm p e).value

/-- The results in the order of the codes. -/
def results : List FP.Result :=
  [square p z, horner p z hornerDegrees, quotient p z, series p z, halfSquare p z, sum1 p z, lowTerm p e,
   sum2 p z e, sum3 p z e, sum4 p z lg e, gridTerm p t, sum5 p z t lg e, highTerm p e, sum6 p z t lg e]

theorem sum6_value : (sum6 p z t lg e).value = accumulated p z t lg e := by
  unfold accumulated
  rw [← horner_value]
  rfl

end Accumulation

open Accumulation in
/-- Codes 15 to 42: the series. -/
theorem runList_series {s : State} {z : XF} (hz : s.z = .holding z) :
    runList (seriesAndAccumulate.take 28) s =
      .next (((((s.fpW (square s.params z)).fpP (horner s.params z hornerDegrees)).fpP
        (quotient s.params z)).fpY (series s.params z)).goto 43) := by
  have hsqr := exec_sqr hz
  obtain ⟨d, hhorner⟩ := runList_pinit_horner (s := (s.fpW (square s.params z)).goto 16) hz hornerDegrees
    hornerDegrees_range
  have hqmul := exec_qmul (s := (((s.fpW (square s.params z)).goto 16).fpP
    (horner s.params z hornerDegrees)).goto d) (z := z) rfl hz
  have hser := exec_ser (s := ((((s.fpW (square s.params z)).fpP (horner s.params z hornerDegrees)).fpP
    (quotient s.params z)).goto 42)) (w := (square s.params z).value) rfl rfl
  exact (runList_cons_of_next hsqr).trans ((runList_append_of_next hhorner).trans
    ((runList_cons_of_next (f := execQmul) (fs := [execSer]) hqmul).trans
      ((runList_singleton _ _).trans hser)))

open Accumulation in
/-- The state after codes 43 to 54, one micro-operation after another. -/
def accumulatedState (u : State) (z t lg : XF) (e : BitVec 16) : State :=
  let s44 := (u.fpTmp (halfSquare u.params z)).goto 44
  let s45 := (s44.fpY (sum1 u.params z)).goto 45
  let s46 := (s45.writeEf (FP.i2f e)).goto 46
  let s47 := (s46.fpTmp (lowTerm u.params e)).goto 47
  let s48 := (s47.fpY (sum2 u.params z e)).goto 48
  let s49 := (s48.fpY (sum3 u.params z e)).goto 49
  let s50 := (s49.writeTmp lg).goto 50
  let s51 := (s50.fpY (sum4 u.params z lg e)).goto 51
  let s52 := (s51.fpTmp (gridTerm u.params t)).goto 52
  let s53 := (s52.fpY (sum5 u.params z t lg e)).goto 53
  let s54 := (s53.fpTmp (highTerm u.params e)).goto 54
  (s54.fpY (sum6 u.params z t lg e)).goto 55

/-- The accumulations of `TMP` that add. -/
theorem exec_accAdd {v : State} {y a : XF} {i : Instr} {c : StepCode}
    (hrow : (i, c) ∈ [(Instr.acc2, (48 : StepCode)), (.acc4, 51), (.acc5, 53), (.acc6, 55)])
    (hy : v.y = .holding y) (ha : v.tmp = .holding a) :
    exec i v = .next ((v.fpY (FP.fadd v.params.defaultNan y a)).goto c) := by
  rw [exec_of_mem_accRows hrow, addTmpToY_of_holding hy ha]

open Accumulation in
/-- Codes 43 to 54: the accumulation. -/
theorem runList_accumulation {u : State} {z t lg : XF} {k : BitVec 7} {e : BitVec 16}
    (hy : u.y = .holding (series u.params z).value) (hw : u.w = .holding (square u.params z).value)
    (hz : u.z = .holding z) (ht : u.t = .holding t) (hk : u.k = .holding k) (he : u.e = .holding e)
    (hlg : logtblRom[k.toNat]? = some lg) :
    runList (seriesAndAccumulate.drop 28) u = .next (accumulatedState u z t lg e) := by
  change runList ([Instr.hw, .acc1, .ecvt, .eb, .acc2, .acc3, .lut, .acc4, .tm1, .acc5, .ea, .acc6].map
    exec) u = _
  refine Eq.trans (runList_cons_of_next (exec_hw hw)) ?_
  refine Eq.trans (runList_cons_of_next (exec_acc1 hy rfl)) ?_
  refine Eq.trans (runList_cons_of_next (exec_ecvt he)) ?_
  refine Eq.trans (runList_cons_of_next (exec_eb rfl)) ?_
  refine Eq.trans (runList_cons_of_next (exec_accAdd (c := 48) (by decide) rfl rfl)) ?_
  refine Eq.trans (runList_cons_of_next (exec_acc3 rfl hz)) ?_
  refine Eq.trans (runList_cons_of_next (exec_lut hk hlg)) ?_
  refine Eq.trans (runList_cons_of_next (exec_accAdd (c := 51) (by decide) rfl rfl)) ?_
  refine Eq.trans (runList_cons_of_next (exec_tm1 ht)) ?_
  refine Eq.trans (runList_cons_of_next (exec_accAdd (c := 53) (by decide) rfl rfl)) ?_
  refine Eq.trans (runList_cons_of_next (exec_ea rfl)) ?_
  exact runList_cons_of_next (exec_accAdd (c := 55) (by decide) rfl rfl)

open Accumulation in
/-- Codes 15 to 54: where they end, what they answer and what they raise. -/
theorem runList_seriesAndAccumulate {s : State} {z t lg : XF} {k : BitVec 7} {e : BitVec 16}
    (hz : s.z = .holding z) (ht : s.t = .holding t) (hk : s.k = .holding k) (he : s.e = .holding e)
    (hlg : logtblRom[k.toNat]? = some lg) :
    ∃ r, runList seriesAndAccumulate s = .next r ∧ r.step = 55 ∧
      r.y = .holding (accumulated s.params z t lg e) ∧
      r.facc = ((results s.params z t lg e).map FP.Result.flags).foldl (· ||| ·) s.facc ∧
      r.z = s.z ∧ r.t = s.t ∧ r.k = s.k ∧ r.e = s.e ∧ r.x = s.x ∧ r.params = s.params ∧
      r.inputs = s.inputs := by
  let v := ((((s.fpW (square s.params z)).fpP (horner s.params z hornerDegrees)).fpP
    (quotient s.params z)).fpY (series s.params z)).goto 43
  have hacc : runList (seriesAndAccumulate.drop 28) v = .next (accumulatedState v z t lg e) :=
    runList_accumulation (u := v) rfl rfl hz ht hk he hlg
  refine ⟨accumulatedState v z t lg e, ?_, rfl, ?_, rfl, rfl, rfl, rfl, rfl, rfl, rfl, rfl⟩
  · rw [← List.take_append_drop 28 seriesAndAccumulate]
    exact (runList_append_of_next (runList_series hz)).trans hacc
  · rw [← sum6_value]
    rfl

/-- Settles O50: the final state is written out, and its registers are read off it. -/
theorem accumulatedResultAsOneExpression : Obligations.AccumulatedResultAsOneExpression := by
  intro s z t lg k e hz ht hk he hlg
  obtain ⟨r, hrun, hstep, hy, -, hframe⟩ := runList_seriesAndAccumulate hz ht hk he hlg
  exact ⟨r, hrun, hstep, hy, hframe⟩

end Sys2Proof.Machine
end

section
/-! PROOFS. The Horner loop (R213, R214, R217, R218): its bounds for every allowed `COEF`, its flags, and its
course from a zero residual. -/

namespace Sys2Proof

namespace FP

/-! Rounding does not cross an encoding (R104) -/

section
variable {r : ℚ} (hr : 0 < r) (w : XF)
include hr

theorem rounded_le_abs_val (h : r ≤ |val w|) : rounded r ≤ |val w| := by
  have hle := (noNearer_abs_val hr w).le
  rw [abs_of_nonneg (sub_nonneg.mpr h)] at hle
  linarith [le_abs_self (rounded r - r)]

theorem abs_val_le_rounded (h : |val w| ≤ r) : |val w| ≤ rounded r := by
  have hle := (noNearer_abs_val hr w).le
  rw [abs_of_nonpos (sub_nonpos.mpr h)] at hle
  linarith [neg_abs_le (rounded r - r)]

end

section
variable {result : Result} {s : BitVec 1} {q : ℚ} (h : OneRounding result s q) (w : XF)
include h

theorem OneRounding.le_abs_val (hq : |q| ≤ |val w|) : |val result.value| ≤ |val w| := by
  rw [h.magnitude]
  obtain hzero | hpos := (abs_nonneg q).eq_or_lt
  · rw [← hzero, rounded_zero]
    exact abs_nonneg _
  · exact rounded_le_abs_val hpos w hq

theorem OneRounding.abs_val_le (hw : 0 < |val w|) (hq : |val w| ≤ |q|) : |val w| ≤ |val result.value| := by
  rw [h.magnitude]
  exact abs_val_le_rounded (hw.trans_le hq) w hq

end

/-! At most the flag NX -/

/-- No flag, or NX alone. -/
def NxAtMost (f : FlagBits) : Prop := f = 0b00000 ∨ f = 0b00001

theorem NxAtMost.or {f g : FlagBits} (hf : NxAtMost f) (hg : NxAtMost g) : NxAtMost (f ||| g) := by
  obtain rfl | rfl := hf
  · simpa using hg
  · obtain rfl | rfl := hg
    · exact .inr rfl
    · exact .inr rfl

theorem nxAtMost_zero : NxAtMost 0 := .inl rfl

theorem nxAtMost_nxUnless (v : XF) (q : ℚ) : NxAtMost (nxUnless v q) := by
  unfold nxUnless
  split
  · exact .inl rfl
  · exact .inr rfl

theorem OneRounding.nxAtMost {result : Result} {s : BitVec 1} {q : ℚ} (h : OneRounding result s q) :
    NxAtMost result.flags :=
  h.flags ▸ nxAtMost_nxUnless _ _

theorem OneRounding.finite {result : Result} {s : BitVec 1} {q : ℚ} (h : OneRounding result s q) :
    result.value.isFinite = true := h.nearest.1

end FP

namespace Machine

/-- Two encodings of one sign that are no zeros lie on the same side of zero. -/
theorem val_side_of_sign_eq {v c : XF} (hs : v.sign = c.sign) (hv : 0 < |FP.val v|) :
    (0 < FP.val c → 0 < FP.val v) ∧ (FP.val c < 0 → FP.val v < 0) := by
  obtain h | h := BitVec.eq_zero_or_eq_one c.sign
  · rw [FP.val_of_sign_zero h, FP.val_of_sign_zero (hs.trans h)]
    exact ⟨fun _ => hv, fun hneg => absurd hneg (abs_nonneg _).not_gt⟩
  · rw [FP.val_of_sign_one h, FP.val_of_sign_one (hs.trans h)]
    exact ⟨fun hpos => absurd hpos (neg_nonpos.mpr (abs_nonneg _)).not_gt, fun _ => neg_lt_zero.mpr hv⟩

/-- What holds after each add carries to the end of the loop. -/
theorem horner_induction {p : Params} {z : XF} {Q : ℕ → FP.Result → Prop}
    (hstep : ∀ m n r, 3 ≤ n → n ≤ 15 → Q m r → Q n (hornerStep p z r n)) {ns : List ℕ}
    (hns : ∀ n ∈ ns, 3 ≤ n ∧ n ≤ 15) {m : ℕ} {r : FP.Result} (h : Q m r) :
    Q (ns.getLastD m) (ns.foldl (hornerStep p z) r) := by
  induction ns generalizing m r with
  | nil => exact h
  | cons n ns ih =>
    obtain ⟨⟨hmin, hmax⟩, hns⟩ := List.forall_mem_cons.mp hns
    rw [List.getLastD_cons, List.foldl_cons]
    exact ih hns (hstep m n r hmin hmax h)

/-! The bounds (R217) -/

/-- 7/128, which no sum of the loop falls below. -/
def hornerLeast : XF := XF.pack 0 0x3FFA 0xC000000000000000000000000000
/-- 65/128, which no sum of the loop exceeds. -/
def hornerGreatest : XF := XF.pack 0 0x3FFE 0x0400000000000000000000000000
/-- 65/16384, which no product of the loop exceeds. -/
def hornerGreatestProduct : XF := XF.pack 0 0x3FF7 0x0400000000000000000000000000

theorem abs_val_hornerWords : |FP.val hornerLeast| = 7 / 128 ∧ |FP.val hornerGreatest| = 65 / 128 ∧
    |FP.val hornerGreatestProduct| = 65 / 16384 := by decide +kernel

/-- `P` after `PINIT` (`n` = 15) and after `PADD.n`: the bounds of R217, and at most NX so far. -/
structure HornerBound (n : ℕ) (r : FP.Result) : Prop where
  finite : r.value.isFinite = true
  ge : 7 / 128 ≤ |FP.val r.value|
  le : |FP.val r.value| ≤ 65 / 128
  pos_of_odd : n % 2 = 1 → 0 < FP.val r.value
  neg_of_even : n % 2 = 0 → FP.val r.value < 0
  flags : FP.NxAtMost r.flags

theorem hornerBound_of_coefAllowed {n : ℕ} {c : XF} (h : coefAllowed n c) : HornerBound n ⟨c, 0⟩ := by
  obtain ⟨hnormal, hlo, hhi, hpos, hneg⟩ := h
  exact ⟨XF.isFinite_of_isNormal hnormal, by linarith, by linarith, hpos, hneg, .inl rfl⟩

section
variable (dn : XF) {z : XF} (hz : z.isFinite = true) (hzhi : |FP.val z| ≤ 2 ^ (-7 : ℤ))
  (hz0 : FP.val z = 0 ∨ 2 ^ (-114 : ℤ) ≤ |FP.val z|)
include hz hzhi hz0

/-- The product of the loop: rounded once, and at most 65/16384. -/
theorem HornerBound.fmul {n : ℕ} {r : FP.Result} (h : HornerBound n r) :
    FP.OneRounding (FP.fmul dn r.value z) (r.value.sign ^^^ z.sign) (FP.val r.value * FP.val z) ∧
      |FP.val (FP.fmul dn r.value z).value| ≤ 65 / 16384 := by
  have hge := h.ge
  have hle := h.le
  obtain ⟨hlo, hhi⟩ := horner_product_bounds (p := FP.val r.value) (by linarith) (by linarith) hzhi
  obtain ⟨-, -, hword⟩ := abs_val_hornerWords
  have hround := FP.fmul_oneRounding dn h.finite hz
    (hz0.imp (fun h0 => by rw [h0, mul_zero]) fun h0 =>
      (zpow_le_zpow_right₀ one_le_two (by norm_num)).trans (hlo h0))
    (hhi.trans (zpow_le_zpow_right₀ one_le_two (by norm_num)))
  have hprod : |FP.val r.value * FP.val z| ≤ |FP.val hornerGreatestProduct| := by
    rw [hword, abs_mul]
    calc |FP.val r.value| * |FP.val z| ≤ 65 / 128 * 2 ^ (-7 : ℤ) :=
          mul_le_mul hle hzhi (abs_nonneg _) (by norm_num)
      _ = 65 / 16384 := by norm_num
  have hvalue := hround.le_abs_val hornerGreatestProduct hprod
  rw [hword] at hvalue
  exact ⟨hround, hvalue⟩

/-- A sum of the loop: an allowed coefficient dominates a product, so the bounds stay. -/
theorem HornerBound.hornerStep {p : Params} (hp : p.Allowed) {m n : ℕ} {r : FP.Result} (hmin : 3 ≤ n)
    (hmax : n ≤ 15) (h : HornerBound m r) : HornerBound n (hornerStep p z r n) := by
  obtain ⟨hnormal, hclo, hchi, hpos, hneg⟩ := hp.coefAllowed_l hmin hmax
  obtain ⟨hmul, hprod⟩ := h.fmul p.defaultNan hz hzhi hz0
  obtain ⟨hleast, hgreatest, -⟩ := abs_val_hornerWords
  obtain ⟨hdom, hlo, hhi⟩ := horner_sum_bounds (c := FP.val (p.l n)) (hprod.trans (by norm_num)) hclo hchi
  have hadd := FP.fadd_oneRounding p.defaultNan hmul.finite (XF.isFinite_of_isNormal hnormal) hdom
    (hlo.trans' (zpow_le_zpow_right₀ one_le_two (by norm_num)))
    (hhi.trans (zpow_le_zpow_right₀ one_le_two (by norm_num)))
  set prod := FP.fmul p.defaultNan r.value z
  have hsum := abs_add_le (FP.val prod.value) (FP.val (p.l n))
  have hdiff := abs_sub_abs_le_abs_sub (FP.val (p.l n)) (-FP.val prod.value)
  rw [abs_neg, sub_neg_eq_add, add_comm (FP.val (p.l n))] at hdiff
  have hge := hadd.abs_val_le hornerLeast (by rw [hleast]; norm_num) (by rw [hleast]; linarith)
  have hle := hadd.le_abs_val hornerGreatest (by rw [hgreatest]; linarith)
  rw [hleast] at hge
  rw [hgreatest] at hle
  obtain ⟨hside_pos, hside_neg⟩ := val_side_of_sign_eq hadd.sign (by linarith)
  exact ⟨hadd.finite, hge, hle, fun hodd => hside_pos (hpos hodd), fun heven => hside_neg (hneg heven),
    h.flags.or (hmul.nxAtMost.or hadd.nxAtMost)⟩

theorem hornerBound_horner {p : Params} (hp : p.Allowed) {ns : List ℕ} (hns : ∀ n ∈ ns, 3 ≤ n ∧ n ≤ 15) :
    HornerBound (ns.getLastD 15) (horner p z ns) :=
  horner_induction (fun _ _ _ hmin hmax h => h.hornerStep hz hzhi hz0 hp hmin hmax) hns
    (hornerBound_of_coefAllowed (hp.coefAllowed_l (by norm_num) le_rfl))

end

/-- `PINIT` and the loop down to `PADD.n`. -/
theorem take_hornerLoop {n : ℕ} (hmin : 3 ≤ n) (hmax : n ≤ 15) :
    (seriesAndAccumulate.drop 1).take (2 * (15 - n) + 1) =
      execPinit :: (hornerDegrees.take (15 - n)).flatMap fun n => [pmul, padd n] := by
  interval_cases n <;> rfl

theorem getLastD_take_hornerDegrees : ∀ n ≤ 15, 3 ≤ n → (hornerDegrees.take (15 - n)).getLastD 15 = n := by
  decide

/-- Settles O42: the bounds are those of the coefficient, moved by a product that is small beside it. -/
theorem hornerLoopKeepsItsBounds : Obligations.HornerLoopKeepsItsBounds := by
  intro s z hp hz hfin hhi h0 n hmin hmax
  have hrange : ∀ m ∈ hornerDegrees.take (15 - n), 3 ≤ m ∧ m ≤ 15 := fun m hm =>
    hornerDegrees_range m (List.mem_of_mem_take hm)
  obtain ⟨d, hrun⟩ := runList_pinit_horner hz _ hrange
  have hbound := hornerBound_horner hfin hhi h0 hp hrange
  rw [getLastD_take_hornerDegrees n hmax hmin] at hbound
  have hge := hbound.ge
  have hle := hbound.le
  rw [take_hornerLoop hmin hmax]
  exact ⟨_, _, hrun, rfl, hbound.finite, by linarith, by linarith, hbound.pos_of_odd, hbound.neg_of_even⟩

/-! A zero residual (R218) -/

/-- A finite word times +0, plus a coefficient, is the coefficient. -/
theorem hornerStep_zero {p : Params} {m n : ℕ} (hm : coefAllowed m (p.l m)) (hn : coefAllowed n (p.l n)) :
    hornerStep p 0 ⟨p.l m, 0⟩ n = ⟨p.l n, 0⟩ := by
  obtain ⟨hm_normal, -, -, -, -⟩ := hm
  obtain ⟨hn_normal, hn_ge, -, -, -⟩ := hn
  have hmul := FP.fmul_of_val_mul_eq_zero p.defaultNan (XF.isFinite_of_isNormal hm_normal)
    (b := 0) (by decide) (by rw [FP.val_zeroWord, mul_zero])
  have hadd (s : BitVec 1) := FP.fadd_of_val_left_eq_zero p.defaultNan (a := XF.zero s)
    (by simp [XF.zero, XF.isFinite]) (XF.isFinite_of_isNormal hn_normal) (FP.val_zero s)
    (abs_pos.mp (by linarith))
  rw [hornerStep, hmul, hadd]
  simp only [BitVec.or_self]

theorem horner_zero {p : Params} (hp : p.Allowed) : horner p 0 hornerDegrees = ⟨p.l 3, 0⟩ :=
  (horner_induction (Q := fun m r => coefAllowed m (p.l m) ∧ r = ⟨p.l m, 0⟩)
    (fun m n r hmin hmax ⟨hm, hr⟩ =>
      have hn := hp.coefAllowed_l hmin hmax
      ⟨hn, hr ▸ hornerStep_zero hm hn⟩)
    hornerDegrees_range ⟨hp.coefAllowed_l (by norm_num) le_rfl, rfl⟩).2

theorem fmul_zero_right (dn : XF) {a : XF} (ha : a.isFinite = true) (hs : a.sign = 0) :
    FP.fmul dn a 0 = ⟨0, 0⟩ := by
  rw [FP.fmul_of_val_mul_eq_zero dn ha (by decide) (by rw [FP.val_zeroWord, mul_zero]), hs]
  rfl

/-- Settles O43: from +0 the loop ends at the positive `COEF[3]`, so every product after it is +0. -/
theorem zeroResidualGivesZeroSeries : Obligations.ZeroResidualGivesZeroSeries := by
  intro s hp hz
  obtain ⟨hnormal, -, -, hpos, -⟩ := hp.coefAllowed_l (n := 3) le_rfl (by norm_num)
  have hsquare : Accumulation.square s.params 0 = ⟨0, 0⟩ := fmul_zero_right _ (by decide) (by decide)
  have hquotient : Accumulation.quotient s.params 0 = ⟨0, 0⟩ := by
    rw [Accumulation.quotient, horner_zero hp]
    exact fmul_zero_right _ (XF.isFinite_of_isNormal hnormal) (FP.sign_eq_zero_of_val_pos (hpos rfl))
  have hseries : Accumulation.series s.params 0 = ⟨0, 0⟩ := by
    rw [Accumulation.series, hsquare, hquotient]
    exact fmul_zero_right _ (by decide) (by decide)
  refine ⟨_, runList_series hz, ?_, ?_, ?_, rfl, rfl⟩
  · rw [hseries]
    rfl
  · rw [hsquare]
    rfl
  · rw [hseries, hsquare, hquotient, horner_zero hp]
    change (((s.facc ||| 0) ||| 0) ||| 0) ||| 0 = s.facc
    simp

end Machine

end Sys2Proof
end

section
/-! PROOFS. The transaction on a positive finite operand other than 1.0 as one rounded expression (R191, R193 to
R195, R242): the residual of the band or of the reduction, then codes 15 to 54. -/

namespace Sys2Proof

/-- An encoding not above a finite one in magnitude is finite (R102). -/
theorem FP.isFinite_of_abs_val_le {v w : XF} (hw : w.isFinite = true) (h : |FP.val v| ≤ |FP.val w|) :
    v.isFinite = true := by
  rw [XF.isFinite_iff_mag] at hw ⊢
  exact (FP.abs_val_le_abs_val_iff.mp h).trans_lt hw

namespace Machine

/-- The flags of a list of results, on top of others. -/
def flagsOver (f : FlagBits) (rs : List FP.Result) : FlagBits := (rs.map FP.Result.flags).foldl (· ||| ·) f

theorem Reduction.bounds {x u g : XF} {k : BitVec 7} {e : BitVec 16} (h : Reduction x u g k e) :
    |FP.val u| ≤ 2 ∧ 45 / 64 ≤ FP.val g ∧ FP.val g ≤ 45 / 32 ∧ |FP.val u - FP.val g| ≤ 1 / 256 := by
  obtain ⟨hlo, hhi⟩ := gridPoint_bounds h.index
  have hlower := h.lower
  have hupper := h.upper
  have hnear := h.near_lower
  have hnear' := h.near_upper
  rw [← h.grid] at hlo hhi
  exact ⟨abs_le.mpr ⟨by linarith, by linarith⟩, hlo, hhi, abs_le.mpr ⟨by linarith, by linarith⟩⟩

/-- The encoding of 2, above every reduced operand and grid point. -/
def twoWord : XF := XF.pack 0 0x4000 0

theorem val_twoWord : |FP.val twoWord| = 2 := by decide +kernel

theorem Reduction.finite {x u g : XF} {k : BitVec 7} {e : BitVec 16} (h : Reduction x u g k e) :
    u.isFinite = true ∧ g.isFinite = true := by
  obtain ⟨hu, hlo, hhi, -⟩ := h.bounds
  have hg : |FP.val g| ≤ 2 := abs_le.mpr ⟨by linarith, by linarith⟩
  rw [← val_twoWord] at hu hg
  exact ⟨FP.isFinite_of_abs_val_le (by decide) hu, FP.isFinite_of_abs_val_le (by decide) hg⟩

section
variable {s : State} (h0 : s.step = 0) {x : XF}
include h0

/-- Up to `BAND` the positive finite operands share one course. -/
theorem exists_run_to_band (hx : posFinite x = true)
    (hpath : (pathOf x).instrsAfterClassify =
      [.norm, .index, .tbuild, .band] ++ (pathOf x).instrsAfterBand) :
    ∃ (t : State) (u g : XF) (k : BitVec 7) (e : BitVec 16),
      transact x s = runList ((pathOf x).instrsAfterBand.map exec) t ∧ t.facc = 0 ∧
      t.x = .holding x ∧ t.params = s.params ∧ t.u = .holding u ∧ t.t = .holding g ∧ t.k = .holding k ∧
      t.e = .holding e ∧ Reduction x u g k e := by
  obtain ⟨t, u, g, k, e, hrun, -, hfacc, htx, hparams, hu, hg, hk, he, hred⟩ :=
    exists_reduction (classified s x) hx rfl rfl
  obtain ⟨hlo, hhi⟩ := (posFinite_iff_toNat x).mp hx
  have hfin : x.isFinite = true := by rw [isFinite_iff_toNat]; omega
  have hband := exec_band (s := t) (x := x) htx (XF.isNaN_of_isFinite hfin)
  rw [transact_eq_after_classify h0, hpath]
  exact ⟨_, u, g, k, e, (runList_append_of_next (fs := [execNorm, execIndex, execTbuild]) hrun).trans
    (runList_cons_of_next hband), hfacc, htx, hparams, hu, hg, hk, he, hred⟩

/-- In the band the residual is `x - 1` at the anchor (R193). -/
theorem transact_near1 (hp : pathOf x = .near1) :
    ∃ r, transact x s = .next r ∧ r.step = 55 ∧
      r.y = .holding (accumulated s.params (FP.fsub s.params.defaultNan x constOne).value constOne 0 0) ∧
      r.facc = flagsOver 0 (FP.fsub s.params.defaultNan x constOne ::
        Accumulation.results s.params (FP.fsub s.params.defaultNan x constOne).value constOne 0 0) := by
  have hx : posFinite x = true := posFinite_of_pathOf (by rw [hp]; rfl)
  obtain ⟨t, u, g, k, e, hrun, hfacc, htx, hparams, -⟩ := exists_run_to_band h0 hx (by rw [hp]; rfl)
  have hznear := exec_znear htx
  obtain ⟨r, hseries, hstep, hy, hflags, -⟩ := runList_seriesAndAccumulate
    (s := ((((t.fpZ (FP.fsub t.params.defaultNan x constOne)).writeK 38).writeT constOne).writeE 0).goto 15)
    (lg := 0) rfl rfl rfl rfl rfl
  rw [hp] at hrun
  refine ⟨r, hrun.trans ((runList_cons_of_next hznear).trans hseries), hstep, ?_, ?_⟩
  · rw [← hparams]
    exact hy
  · rw [← hparams, ← hfacc]
    exact hflags

/-- Elsewhere the residual is the rounded quotient of the reduced operand's distance from its grid point
(R194, R195). -/
theorem transact_gen (hp : pathOf x = .gen) :
    ∃ (r : State) (u g lg : XF) (k : BitVec 7) (e : BitVec 16),
      Reduction x u g k e ∧ logtblRom[k.toNat]? = some lg ∧ transact x s = .next r ∧ r.step = 55 ∧
      r.y = .holding (accumulated s.params (FP.fdiv s.params.defaultNan
        (FP.fsub s.params.defaultNan u g).value g).value g lg e) ∧
      r.facc = flagsOver 0 (FP.fsub s.params.defaultNan u g ::
        FP.fdiv s.params.defaultNan (FP.fsub s.params.defaultNan u g).value g ::
        Accumulation.results s.params (FP.fdiv s.params.defaultNan
          (FP.fsub s.params.defaultNan u g).value g).value g lg e) := by
  have hx : posFinite x = true := posFinite_of_pathOf (by rw [hp]; rfl)
  obtain ⟨t, u, g, k, e, hrun, hfacc, -, hparams, hu, hg, hk, he, hred⟩ :=
    exists_run_to_band h0 hx (by rw [hp]; rfl)
  have hlg := logtblRom_of_lt (n := k.toNat) (by have := hred.index; omega)
  have hzsub := exec_zsub hu hg
  have hzdiv := exec_zdiv (s := (t.fpTmp (FP.fsub t.params.defaultNan u g)).goto 14) rfl hg
  obtain ⟨r, hseries, hstep, hy, hflags, -⟩ := runList_seriesAndAccumulate
    (s := (((t.fpTmp (FP.fsub t.params.defaultNan u g)).goto 14).fpZ
      (FP.fdiv t.params.defaultNan (FP.fsub t.params.defaultNan u g).value g)).goto 15) rfl hg hk he hlg
  rw [hp] at hrun
  refine ⟨r, u, g, _, k, e, hred, hlg, hrun.trans ((runList_cons_of_next hzsub).trans
    ((runList_cons_of_next hzdiv).trans hseries)), hstep, ?_, ?_⟩
  · rw [← hparams]
    exact hy
  · rw [← hparams, ← hfacc]
    exact hflags

end

theorem rspY_of_holding {t : State} {y : XF} (h55 : t.step = 55) (hy : t.y = .holding y) : t.rspY = y := by
  rw [State.rspY_of_held h55 (by rw [hy]; rfl), hy]
  rfl

/-- Settles O60: the two courses of the transaction, with the reduction's operand, grid point, index and
exponent as witnesses. -/
theorem lnIsOneRoundedExpression : Obligations.LnIsOneRoundedExpression := by
  intro x s h0
  rw [exec_of_encode_req (i := .ln x) rfl]
  refine ⟨fun hp => ?_, fun hp => ?_⟩
  · obtain ⟨r, hr, hstep, hy, -⟩ := transact_near1 h0 hp
    exact ⟨r, hr, rspY_of_holding hstep hy⟩
  · obtain ⟨r, u, g, lg, k, e, hred, hlg, hr, hstep, hy, -⟩ := transact_gen h0 hp
    obtain ⟨hfu, hfg⟩ := hred.finite
    exact ⟨r, u, g, lg, k, e, hr, hfu, hfg, hred.value, hred.lower, hred.upper, hred.grid, hred.near_lower,
      hred.near_upper, hlg, rspY_of_holding hstep hy⟩

end Machine

end Sys2Proof
end

section
/-! PROOFS. The flags of a response (R243, R251): sums of moderate operands and products far from the ends of the
range raise at most NX and stay finite, so codes 11 to 54 raise at most NX. -/

namespace Sys2Proof

namespace FP

/-! Moderate results -/

/-- A finite encoding of magnitude at most `2^k`. -/
structure Within (k : ℤ) (v : XF) : Prop where
  finite : v.isFinite = true
  le : |val v| ≤ 2 ^ k

/-- A finite result of magnitude at most `2^k`, with at most NX. -/
structure Tame (k : ℤ) (r : Result) : Prop where
  within : Within k r.value
  flags : NxAtMost r.flags

theorem Within.mono {k m : ℤ} {v : XF} (h : Within k v) (hkm : k ≤ m) : Within m v :=
  ⟨h.finite, h.le.trans (zpow_le_zpow_right₀ one_le_two hkm)⟩

theorem Within.neg {k : ℤ} {v : XF} (h : Within k v) : Within k v.neg :=
  ⟨by simpa [XF.isFinite] using h.finite, by rw [val_neg, abs_neg]; exact h.le⟩

theorem Exact.tame {r : Result} {q : ℚ} {k : ℤ} (h : Exact r q) (hq : |q| ≤ 2 ^ k) : Tame k r :=
  ⟨⟨h.finite, h.value.symm ▸ hq⟩, .inl h.flags⟩

section
variable {r : Result} {s : BitVec 1} {q : ℚ} (h : OneRounding r s q)
include h

theorem OneRounding.tame {k : ℤ} (hmin : -16382 ≤ k) (hmax : k ≤ 16383) (hq : |q| ≤ 2 ^ k) : Tame k r :=
  ⟨⟨h.finite, h.le_two_zpow hmin hmax hq⟩, h.nxAtMost⟩

theorem OneRounding.val_eq_zero (hq : q = 0) : val r.value = 0 := by
  have hmag := h.magnitude
  rwa [hq, abs_zero, rounded_zero, abs_eq_zero] at hmag

end

/-- A sum below the normal range is a whole number of the least last place, hence exact; any other is one
rounding (R108). -/
theorem fadd_tame (dn : XF) {a b : XF} {k : ℤ} (ha : Within k a) (hb : Within k b) (hmin : -16382 ≤ k + 1)
    (hmax : k + 1 ≤ 16383) : Tame (k + 1) (fadd dn a b) := by
  have hle : |val a + val b| ≤ 2 ^ (k + 1) := by
    rw [zpow_add_one₀ two_ne_zero, mul_two]
    exact (abs_add_le _ _).trans (add_le_add ha.le hb.le)
  obtain hsmall | hlarge := lt_or_ge |val a + val b| (2 ^ (-16382 : ℤ))
  · obtain ⟨m, hm⟩ := exists_val_eq_int_mul a a.ulpExp_ge
    obtain ⟨n, hn⟩ := exists_val_eq_int_mul b b.ulpExp_ge
    have hsum : val a + val b = ((m + n : ℤ) : ℚ) * 2 ^ (-16494 : ℤ) := by
      rw [hm, hn, Int.cast_add, add_mul]
    have hpos : (0 : ℚ) < 2 ^ (-16494 : ℤ) := by positivity
    have hlt : |m + n| < 2 ^ 113 := by
      rw [hsum, abs_mul, abs_of_pos hpos] at hsmall
      have htop : (2 : ℚ) ^ (-16382 : ℤ) ≤ (2 ^ 113 : ℕ) * 2 ^ (-16494 : ℤ) := by
        rw [← two_zpow_add]
        exact zpow_le_zpow_right₀ one_le_two (by norm_num)
      exact_mod_cast lt_of_mul_lt_mul_right (hsmall.trans_le htop) hpos.le
    exact (fadd_exact dn ha.finite hb.finite hsum hlt le_rfl (by norm_num)).tame hle
  · have hne : val a + val b ≠ 0 := abs_pos.mp (hlarge.trans_lt' (by positivity))
    rw [fadd_of_isFinite dn ha.finite hb.finite, if_neg hne]
    exact (oneRounding_round (signed_neg_sign_abs _) hlarge
      (hle.trans (zpow_le_zpow_right₀ one_le_two hmax))).tame hmin hmax hle

theorem fsub_tame (dn : XF) {a b : XF} {k : ℤ} (ha : Within k a) (hb : Within k b) (hmin : -16382 ≤ k + 1)
    (hmax : k + 1 ≤ 16383) : Tame (k + 1) (fsub dn a b) := by
  rw [fsub_eq_fadd_neg dn (XF.isNaN_of_isFinite ha.finite) (XF.isNaN_of_isFinite hb.finite)]
  exact fadd_tame dn ha hb.neg hmin hmax

/-- A product far from the ends of the range (R110). -/
theorem fmul_tame (dn : XF) {a b : XF} (ha : a.isFinite = true) (hb : b.isFinite = true)
    (hmin : val a * val b = 0 ∨ 2 ^ (-16382 : ℤ) ≤ |val a * val b|) (hmax : |val a * val b| ≤ 2 ^ (15 : ℤ)) :
    Tame 15 (fmul dn a b) :=
  (fmul_oneRounding dn ha hb hmin (hmax.trans (zpow_le_zpow_right₀ one_le_two (by norm_num)))).tame
    (by norm_num) (by norm_num) hmax

end FP

namespace Machine
open Sys2Proof.FP (Within Tame NxAtMost)

/-! Codes 15 to 54 (R210 to R241) -/

/-- The contract of the residual (R195, R210). -/
structure ResidualBound (z : XF) : Prop where
  finite : z.isFinite = true
  le : |FP.val z| ≤ 2 ^ (-7 : ℤ)
  ge : FP.val z = 0 ∨ 2 ^ (-114 : ℤ) ≤ |FP.val z|

section
open Accumulation
variable {p : Params} (hp : p.Allowed) {z : XF} (hz : ResidualBound z)
include hz

theorem square_oneRounding : FP.OneRounding (square p z) 0 (FP.val z * FP.val z) :=
  fmul_self_oneRounding p.defaultNan hz.finite hz.le hz.ge

theorem square_within : FP.val (square p z).value = 0 ∧ FP.val z = 0 ∨
    2 ^ (-228 : ℤ) ≤ |FP.val (square p z).value| := by
  obtain ⟨hlo, -⟩ := square_bounds hz.le
  have hround := square_oneRounding (p := p) hz
  refine hz.ge.imp (fun h0 => ⟨hround.val_eq_zero (by rw [h0, mul_zero]), h0⟩) fun h =>
    hround.two_zpow_le (by norm_num) (by norm_num) (hlo h)

theorem square_tame : Tame (-14) (square p z) :=
  (square_oneRounding hz).tame (by norm_num) (by norm_num) (square_bounds hz.le).2

theorem halfSquare_tame : Tame 15 (halfSquare p z) := by
  obtain ⟨-, -, hhalf, -, -, -⟩ := const_values
  have hw := (square_tame (p := p) hz).within
  refine FP.fmul_tame p.defaultNan (by decide) hw.finite ?_ ?_
  · rw [hhalf, abs_mul, abs_of_pos (by norm_num : (0 : ℚ) < 1 / 2)]
    refine (square_within (p := p) hz).imp (fun h => by rw [h.1, mul_zero]) fun h => ?_
    calc (2 : ℚ) ^ (-16382 : ℤ) ≤ 2 ^ (-229 : ℤ) := zpow_le_zpow_right₀ one_le_two (by norm_num)
      _ = 1 / 2 * 2 ^ (-228 : ℤ) := by norm_num
      _ ≤ 1 / 2 * |FP.val (square p z).value| := by gcongr
  · rw [hhalf, abs_mul, abs_of_pos (by norm_num : (0 : ℚ) < 1 / 2)]
    calc 1 / 2 * |FP.val (square p z).value| ≤ 1 * 2 ^ (-14 : ℤ) :=
          mul_le_mul (by norm_num) hw.le (abs_nonneg _) zero_le_one
      _ ≤ 2 ^ (15 : ℤ) := by norm_num

include hp

theorem horner_bound : HornerBound 3 (horner p z hornerDegrees) :=
  hornerBound_horner hz.finite hz.le hz.ge hp hornerDegrees_range

theorem quotient_bounds : Tame (-7) (quotient p z) ∧
    (FP.val z = 0 → FP.val (quotient p z).value = 0) ∧
    (2 ^ (-114 : ℤ) ≤ |FP.val z| → 2 ^ (-119 : ℤ) ≤ |FP.val (quotient p z).value|) := by
  have hbound := horner_bound hp hz
  have hge := hbound.ge
  have hle := hbound.le
  obtain ⟨hround, -⟩ := hbound.fmul p.defaultNan hz.finite hz.le hz.ge
  obtain ⟨hlo, hhi⟩ := horner_product_bounds (p := FP.val (horner p z hornerDegrees).value) (by linarith)
    (by linarith) hz.le
  exact ⟨hround.tame (by norm_num) (by norm_num) hhi, fun h0 => hround.val_eq_zero (by rw [h0, mul_zero]),
    fun h => hround.two_zpow_le (by norm_num) (by norm_num) (hlo h)⟩

theorem series_tame : Tame 15 (series p z) := by
  obtain ⟨hq, hq0, hq1⟩ := quotient_bounds hp hz
  have hw := square_tame (p := p) hz
  refine FP.fmul_tame p.defaultNan hq.within.finite hw.within.finite ?_ ?_
  · obtain h0 | h := hz.ge
    · exact .inl (by rw [hq0 h0, zero_mul])
    · obtain ⟨-, h0⟩ | hw1 := square_within (p := p) hz
      · exact .inl (by rw [hq0 h0, zero_mul])
      · right
        rw [abs_mul]
        calc (2 : ℚ) ^ (-16382 : ℤ) ≤ 2 ^ (-119 + -228 : ℤ) := zpow_le_zpow_right₀ one_le_two (by norm_num)
          _ = 2 ^ (-119 : ℤ) * 2 ^ (-228 : ℤ) := zpow_add₀ two_ne_zero _ _
          _ ≤ |FP.val (quotient p z).value| * |FP.val (square p z).value| :=
            mul_le_mul (hq1 h) hw1 (by positivity) (abs_nonneg _)
  · rw [abs_mul]
    calc |FP.val (quotient p z).value| * |FP.val (square p z).value| ≤ 2 ^ (-7 : ℤ) * 2 ^ (-14 : ℤ) :=
          mul_le_mul hq.within.le hw.within.le (abs_nonneg _) (by positivity)
      _ ≤ 2 ^ (15 : ℤ) := by norm_num

end

theorem abs_int_mul_le {e : BitVec 16} {c : ℚ} (hpos : 0 ≤ c) (hle : c ≤ 1) :
    |(e.toInt : ℚ) * c| ≤ 2 ^ (15 : ℤ) := by
  have hge := BitVec.le_toInt e
  have hlt := BitVec.toInt_lt (x := e)
  have hint : |(e.toInt : ℚ)| ≤ 2 ^ (15 : ℤ) := by
    exact_mod_cast abs_le.mpr (show -(2 ^ 15 : ℤ) ≤ e.toInt ∧ e.toInt ≤ 2 ^ 15 by omega)
  rw [abs_mul, abs_of_nonneg hpos]
  exact (mul_le_of_le_one_right (abs_nonneg _) hle).trans hint

theorem lowTerm_tame (p : Params) (e : BitVec 16) : Tame 15 (Accumulation.lowTerm p e) := by
  obtain ⟨hlo, hhi⟩ := val_constLn2b_bounds
  exact (fmul_i2f_constLn2b_oneRounding p.defaultNan e).tame (by norm_num) (by norm_num)
    (abs_int_mul_le (hlo.trans' (by positivity)) hhi)

theorem highTerm_tame (p : Params) {e : BitVec 16} (hmin : -16494 ≤ e.toInt) (hmax : e.toInt ≤ 16494) :
    Tame 15 (Accumulation.highTerm p e) := by
  refine (fmul_i2f_constLn2a_exact p.defaultNan hmin hmax).tame (abs_int_mul_le ?_ ?_)
  · rw [val_constLn2a]
    norm_num
  · rw [val_constLn2a]
    norm_num

theorem constOne_within : Within 1 constOne := by
  obtain ⟨-, -, -, hone, -, -⟩ := const_values
  exact ⟨by decide, by rw [hone]; norm_num⟩

/-- Every word of the table is finite and at most 1 in magnitude (R54). -/
theorem logtblWord_within (k : Fin 92) : Within 0 (logtblWord k) := by
  have h : ∀ k : Fin 92, (logtblWord k).isFinite = true ∧ |FP.val (logtblWord k)| ≤ 1 := by decide +kernel
  obtain ⟨hfin, hle⟩ := h k
  exact ⟨hfin, by rwa [zpow_zero]⟩

theorem logtbl_within {n : ℕ} {lg : XF} (h : logtblRom[n]? = some lg) : Within 0 lg := by
  obtain ⟨hlt, rfl⟩ := List.getElem?_eq_some_iff.mp h
  exact logtblWord_within ⟨n, hlt⟩

open Accumulation in
/-- The accumulation: each addend is at most `2^15`, so the partial sums stay below `2^21` (R231 to R241). -/
theorem results_tame {p : Params} (hp : p.Allowed) {z t lg : XF} {e : BitVec 16} (hz : ResidualBound z)
    (ht : Within 1 t) (hlg : Within 0 lg) (hmin : -16494 ≤ e.toInt) (hmax : e.toInt ≤ 16494) :
    (∀ r ∈ results p z t lg e, NxAtMost r.flags) ∧ (accumulated p z t lg e).isFinite = true := by
  have hsquare := square_tame (p := p) hz
  have hhorner := horner_bound hp hz
  obtain ⟨hquotient, -⟩ := quotient_bounds hp hz
  have hseries := series_tame hp hz
  have hhalf := halfSquare_tame (p := p) hz
  have hlow := lowTerm_tame p e
  have hhigh := highTerm_tame p hmin hmax
  have hgrid := FP.fsub_tame p.defaultNan ht constOne_within (by norm_num) (by norm_num)
  have hresidual : Within (-7) z := ⟨hz.finite, hz.le⟩
  have hsum1 := FP.fsub_tame p.defaultNan hseries.within hhalf.within (by norm_num) (by norm_num)
  have hsum2 := FP.fadd_tame p.defaultNan hsum1.within (hlow.within.mono (by norm_num)) (by norm_num)
    (by norm_num)
  have hsum3 := FP.fadd_tame p.defaultNan hsum2.within (hresidual.mono (by norm_num)) (by norm_num)
    (by norm_num)
  have hsum4 := FP.fadd_tame p.defaultNan hsum3.within (hlg.mono (by norm_num)) (by norm_num) (by norm_num)
  have hsum5 := FP.fadd_tame p.defaultNan hsum4.within (hgrid.within.mono (by norm_num)) (by norm_num)
    (by norm_num)
  have hsum6 := FP.fadd_tame p.defaultNan hsum5.within (hhigh.within.mono (by norm_num)) (by norm_num)
    (by norm_num)
  refine ⟨?_, sum6_value p z t lg e ▸ hsum6.within.finite⟩
  simp only [results, List.forall_mem_cons]
  exact ⟨hsquare.flags, hhorner.flags, hquotient.flags, hseries.flags, hhalf.flags, hsum1.flags, hlow.flags,
    hsum2.flags, hsum3.flags, hsum4.flags, hgrid.flags, hsum5.flags, hhigh.flags, hsum6.flags, nofun⟩

theorem nxAtMost_flagsOver {f : FlagBits} (hf : NxAtMost f) {rs : List FP.Result}
    (h : ∀ r ∈ rs, NxAtMost r.flags) : NxAtMost (flagsOver f rs) := by
  induction rs generalizing f with
  | nil => exact hf
  | cons r rs ih =>
    obtain ⟨hr, hrs⟩ := List.forall_mem_cons.mp h
    exact ih (hf.or hr) hrs

/-! The residuals (R193 to R195) -/

/-- A difference of operands from 1/2 upwards that are near each other is exact, and zero or at least `2^-113`
(R115). -/
theorem fsub_near (dn : XF) {a b : XF} (ha : a.isFinite = true) (hb : b.isFinite = true)
    (ha' : 1 / 2 ≤ FP.val a) (hb' : 1 / 2 ≤ FP.val b) (h : |FP.val a - FP.val b| ≤ 1 / 128) :
    FP.Exact (FP.fsub dn a b) (FP.val a - FP.val b) ∧
      (FP.val a - FP.val b = 0 ∨ 2 ^ (-113 : ℤ) ≤ |FP.val a - FP.val b|) := by
  have ha_half := two_zpow_neg_one_le_abs ha'
  have hb_half := two_zpow_neg_one_le_abs hb'
  refine ⟨FP.fsub_exact_of_near ha_half hb_half dn ha hb (h.trans_lt (by norm_num)) (by norm_num)
    (by norm_num), ?_⟩
  obtain heq | hne := eq_or_ne (FP.val a) (FP.val b)
  · exact .inl (sub_eq_zero.mpr heq)
  · exact .inr (FP.two_zpow_le_abs_val_sub ha_half hb_half hne)

/-- In the band: `x - 1`. -/
theorem residualBound_near1 (dn : XF) {x : XF} (hx : x.isFinite = true) (hlo : 127 / 128 ≤ FP.val x)
    (hhi : FP.val x ≤ 129 / 128) :
    ResidualBound (FP.fsub dn x constOne).value ∧ NxAtMost (FP.fsub dn x constOne).flags := by
  obtain ⟨-, -, -, hone, -, -⟩ := const_values
  have hnear : |FP.val x - FP.val constOne| ≤ 1 / 128 := by
    rw [hone, abs_le]
    constructor <;> linarith
  obtain ⟨hexact, hge⟩ := fsub_near dn hx (b := constOne) (by decide) (by linarith)
    (by rw [hone]; norm_num) hnear
  refine ⟨⟨hexact.finite, ?_, ?_⟩, .inl hexact.flags⟩
  · rw [hexact.value]
    exact hnear.trans_eq (by norm_num)
  · rw [hexact.value]
    exact hge.imp_right (zpow_le_zpow_right₀ one_le_two (by norm_num)).trans

/-- Elsewhere: the difference from the grid point, over the grid point. -/
theorem residualBound_gen (dn : XF) {x u g : XF} {k : BitVec 7} {e : BitVec 16} (h : Reduction x u g k e) :
    NxAtMost (FP.fsub dn u g).flags ∧ NxAtMost (FP.fdiv dn (FP.fsub dn u g).value g).flags ∧
      ResidualBound (FP.fdiv dn (FP.fsub dn u g).value g).value := by
  obtain ⟨hfu, hfg⟩ := h.finite
  obtain ⟨-, hglo, hghi, hnear⟩ := h.bounds
  have hlower := h.lower
  obtain ⟨hexact, hge⟩ := fsub_near dn hfu hfg (by linarith) (by linarith) (hnear.trans (by norm_num))
  rw [← hexact.value] at hnear hge
  obtain ⟨hround, hle, hlo⟩ := fdiv_residual dn hexact.finite hfg hglo hghi hnear hge
  exact ⟨.inl hexact.flags, hround.nxAtMost, hround.finite, hle,
    hge.imp (fun h0 => hround.val_eq_zero (by rw [h0, zero_div])) hlo⟩

/-! The response -/

section
variable {s : State} (h0 : s.step = 0) (hp : s.params.Allowed) {x : XF}
include h0 hp

theorem transact_near1_tame (hx : pathOf x = .near1) :
    ∃ t, transact x s = .next t ∧ NxAtMost t.facc ∧ t.rspY.isFinite = true := by
  obtain ⟨t, ht, h55, hy, hfacc⟩ := transact_near1 h0 hx
  obtain ⟨-, -, -, -, hnear1, -⟩ := operandClassesByValue x
  obtain ⟨hfin, hlo, hhi, -⟩ := hnear1.mp hx
  obtain ⟨hres, hflags⟩ := residualBound_near1 s.params.defaultNan hfin hlo hhi
  obtain ⟨hresults, hyfin⟩ := results_tame hp hres constOne_within (lg := 0) (e := 0)
    ⟨by decide, by rw [FP.val_zeroWord]; norm_num⟩ (by decide) (by decide)
  refine ⟨t, ht, ?_, by rwa [rspY_of_holding h55 hy]⟩
  rw [hfacc]
  exact nxAtMost_flagsOver FP.nxAtMost_zero (List.forall_mem_cons.mpr ⟨hflags, hresults⟩)

theorem transact_gen_tame (hx : pathOf x = .gen) :
    ∃ t, transact x s = .next t ∧ NxAtMost t.facc ∧ t.rspY.isFinite = true := by
  obtain ⟨t, u, g, lg, k, e, hred, hlg, ht, h55, hy, hfacc⟩ := transact_gen h0 hx
  obtain ⟨hsub, hdiv, hres⟩ := residualBound_gen s.params.defaultNan hred
  obtain ⟨-, hglo, hghi, -⟩ := hred.bounds
  have hg : Within 1 g := ⟨hred.finite.2, by rw [zpow_one, abs_le]; constructor <;> linarith⟩
  have hmax := hred.exponent_upper
  obtain ⟨hresults, hyfin⟩ := results_tame hp hres hg (logtbl_within hlg) hred.exponent_lower (by omega)
  refine ⟨t, ht, ?_, by rwa [rspY_of_holding h55 hy]⟩
  rw [hfacc]
  exact nxAtMost_flagsOver FP.nxAtMost_zero
    (List.forall_mem_cons.mpr ⟨hsub, List.forall_mem_cons.mpr ⟨hdiv, hresults⟩⟩)

end

theorem eq_oneWord_of_pathOf {x : XF} (h : pathOf x = .one) : x = oneWord := by
  obtain ⟨-, -, -, hone, -, -⟩ := operandClassesByValue x
  exact (eq_constOne_iff x).mpr (hone.mp h).2

/-- Settles O59: each class has its own course, and only the two long ones round, where nothing leaves the
normal range. -/
theorem responseFlagsPerClass : Obligations.ResponseFlagsPerClass := by
  intro x s h0 hp
  rw [exec_of_encode_req (i := .ln x) rfl]
  obtain ⟨t, ht, -, h55, -⟩ := exists_transact h0 x
  have hsame {u : State} (hu : transact x s = .next u) : u = t :=
    Host.Outcome.next.inj (hu.symm.trans ht)
  refine ⟨t, ht, rspFlags_of_step h55, fun hx => ?_, fun hx => ?_, fun hx => ?_, fun hx => ?_, fun hx => ?_⟩
  · obtain ⟨u, hu, -, -, hfacc⟩ := transact_zero h0 hx
    rwa [← hsame hu]
  · obtain ⟨u, hu, -, -, hfacc⟩ := transact_neg h0 hp.2 hx
    rwa [← hsame hu]
  · obtain ⟨u, hu, -, -, hfacc⟩ := transact_special h0 hx (isFinite_of_special hx)
    rwa [← hsame hu]
  · obtain rfl := eq_oneWord_of_pathOf hx
    obtain ⟨u, hu, -, -, hfacc⟩ := transact_one h0
    rwa [← hsame hu]
  · obtain ⟨u, hu, hfacc, hfin⟩ := hx.elim (transact_near1_tame h0 hp) (transact_gen_tame h0 hp)
    rw [← hsame hu]
    exact ⟨hfacc, hfin⟩

end Machine

end Sys2Proof
end
